-- ==== Sys2Proof/Word.lean ====
section
/-! DEFINITION. The word types of the SPU-DSP block (spec/00_scope.md R9, R10): bit vectors for what the spec holds as
bits, and nothing else. The arithmetic over them stands in Sys2Proof/Machine/Operands.lean. -/

namespace Sys2Proof

/-- One byte of Sound RAM (R21). -/
abbrev Byte := BitVec 8

/-- A 16-bit register or Sound-RAM cell (R22 to R47). -/
abbrev Half := BitVec 16

/-- A 32-bit DMA word or 32-bit register access (R111, R132). -/
abbrev Word := BitVec 32

/-- A mask with one bit per voice (R36 to R38). -/
abbrev Mask := BitVec 24

/-- A Sound-RAM byte address (R21: a 19-bit address space). -/
abbrev RamAddr := BitVec 19

/-- The low 12 bits of a bus address: an offset of the register window (R90, R110). -/
abbrev Offset := BitVec 12

/-- A voice index 0..23 (R1, R7 `NVOICES`). -/
abbrev VoiceId := Fin 24

end Sys2Proof
end

