-- ==== Sys2Proof/Config.lean ====
section
/-! DEFINITION. The parameters that SPUDOC leaves to the implementation (spec/00_scope.md R8, spec/92_eei_decisions.md D2, D4,
D17, D18). R20: they are "not state: they are arguments of the step functions". The operations of Sys2Proof/Machine take
them as one argument of type `Params`; the machine itself runs with `Config.params`, whose fields are opaque constants, so
that no statement can rest on a value of theirs. -/

namespace Sys2Proof

/-- Four signed 16-bit interpolation weights, oldest point first (R281, R282). -/
structure Weights where
  c0 : Half
  c1 : Half
  c2 : Half
  c3 : Half
deriving DecidableEq, Repr, Inhabited

/-- The model arguments of R8. -/
structure Params where
  /-- `STRICT` (D4): strict or lenient handling of unrecognised offsets (R155). -/
  strict : Bool
  /-- `INTERP` (D17): the 4-point interpolation kernel, a function of the 12-bit fraction alone (R282). -/
  interp : BitVec 12 → Weights
  /-- `NOISE` (D18): the k-th draw of a noise sample, any signed 16-bit value (R283). -/
  noise : Nat → Half
  /-- `Sample(n, k)` for `k` above 27, which R280 does not define (log 11). -/
  strayed : Nat → Half

/-- DESIGN CHOICE (log 5): whether unrecognised offsets fail hard, fixed for the session. Nothing constrains it. -/
opaque Config.strict : Bool

/-- DESIGN CHOICE (log 6): the interpolation kernel. R282: "A model must not assume any property of `INTERP`". -/
opaque Config.interp : BitVec 12 → Weights

/-- DESIGN CHOICE (log 7): the stream of noise draws; the k-th draw of the session is `Config.noise k`. -/
opaque Config.noise : Nat → Half

/-- DESIGN CHOICE (log 11): what the interpolator would read beyond the 28 samples of a block. -/
opaque Config.strayed : Nat → Half

/-- DESIGN CHOICE (log 13): the bits of the window's bus address above bit 11 (R90, D2). -/
opaque Config.spuBasePage : Nat

/-- `SPU_BASE`, the bus address of window offset 0xC00; only its low 12 bits are fixed (R90). -/
def Config.spuBase : Nat := 0x1000 * Config.spuBasePage + 0xC00

/-- The parameters the machine runs with. -/
def Config.params : Params where
  strict := Config.strict
  interp := Config.interp
  noise := Config.noise
  strayed := Config.strayed

end Sys2Proof
end

