-- ==== Sys2Proof/Syntax.lean ====
section
/-! DEFINITION. The syntax of the SPU-DSP block: the registers of the window (spec/30_encoding.md R113 to R115), a presented
transaction (R110, R111), and `Instr`, one constructor per mnemonic of spec/opcode_table.json, in the table's order. The
block executes no instruction stream (R2): what stands here as an instruction is a transaction of an outside agent or a
micro-operation of a mix step (R12). -/

namespace Sys2Proof

/-- The eight registers of a voice, by their sub-offset (R113). -/
inductive VoiceReg where
  | volL  -- `VOL_L`, sub-offset 0x0, R160
  | volR  -- `VOL_R`, sub-offset 0x2, R161
  | pitch  -- `PITCH`, sub-offset 0x4, R162
  | start  -- `START`, sub-offset 0x6, R163
  | adsrLo  -- `ADSR_LO`, sub-offset 0x8, R164
  | adsrHi  -- `ADSR_HI`, sub-offset 0xA, R165
  | env  -- `ENV`, sub-offset 0xC, R166
  | repeatAddr  -- `REPEAT`, sub-offset 0xE, R167
deriving DecidableEq, Repr

/-- The 16-bit registers of the window: those of a voice (R113), the global ones (R114) and the reverb ones (R115). -/
inductive Reg where
  | voice (r : VoiceReg) (n : VoiceId)
  | mvolL  -- `MVOL_L`, 0xD80, R170
  | mvolR  -- `MVOL_R`, 0xD82, R171
  | vLOUT  -- `vLOUT`, 0xD84, R172
  | vROUT  -- `vROUT`, 0xD86, R173
  | konLo  -- `KON_LO`, 0xD88, R174
  | konHi  -- `KON_HI`, 0xD8A, R175
  | koffLo  -- `KOFF_LO`, 0xD8C, R176
  | koffHi  -- `KOFF_HI`, 0xD8E, R177
  | pmonLo  -- `PMON_LO`, 0xD90, R178
  | pmonHi  -- `PMON_HI`, 0xD92, R179
  | nonLo  -- `NON_LO`, 0xD94, R180
  | nonHi  -- `NON_HI`, 0xD96, R181
  | eonLo  -- `EON_LO`, 0xD98, R182
  | eonHi  -- `EON_HI`, 0xD9A, R183
  | endxLo  -- `ENDX_LO`, 0xD9C, R184
  | endxHi  -- `ENDX_HI`, 0xD9E, R185
  | mbase  -- `MBASE`, 0xDA2, R186
  | irqAddr  -- `IRQ_ADDR`, 0xDA4, R187
  | xferAddr  -- `XFER_ADDR`, 0xDA6, R188
  | xferPort  -- `XFER_PORT`, 0xDA8, R189
  | spucnt  -- `SPUCNT`, 0xDAA, R190
  | spustat  -- `SPUSTAT`, 0xDAE, R191
  | cdvolL  -- `CDVOL_L`, 0xDB0, R192
  | cdvolR  -- `CDVOL_R`, 0xDB2, R193
  | extvolL  -- `EXTVOL_L`, 0xDB4, R194
  | extvolR  -- `EXTVOL_R`, 0xDB6, R195
  | dAPF1  -- `dAPF1`, 0xDC0, R200
  | dAPF2  -- `dAPF2`, 0xDC2, R201
  | vIIR  -- `vIIR`, 0xDC4, R202
  | vCOMB1  -- `vCOMB1`, 0xDC6, R203
  | vCOMB2  -- `vCOMB2`, 0xDC8, R204
  | vCOMB3  -- `vCOMB3`, 0xDCA, R205
  | vCOMB4  -- `vCOMB4`, 0xDCC, R206
  | vWALL  -- `vWALL`, 0xDCE, R207
  | vAPF1  -- `vAPF1`, 0xDD0, R208
  | vAPF2  -- `vAPF2`, 0xDD2, R209
  | mLSAME  -- `mLSAME`, 0xDD4, R210
  | mRSAME  -- `mRSAME`, 0xDD6, R211
  | mLCOMB1  -- `mLCOMB1`, 0xDD8, R212
  | mRCOMB1  -- `mRCOMB1`, 0xDDA, R213
  | mLCOMB2  -- `mLCOMB2`, 0xDDC, R214
  | mRCOMB2  -- `mRCOMB2`, 0xDDE, R215
  | dLSAME  -- `dLSAME`, 0xDE0, R216
  | dRSAME  -- `dRSAME`, 0xDE2, R217
  | mLDIFF  -- `mLDIFF`, 0xDE4, R218
  | mRDIFF  -- `mRDIFF`, 0xDE6, R219
  | mLCOMB3  -- `mLCOMB3`, 0xDE8, R220
  | mRCOMB3  -- `mRCOMB3`, 0xDEA, R221
  | mLCOMB4  -- `mLCOMB4`, 0xDEC, R222
  | mRCOMB4  -- `mRCOMB4`, 0xDEE, R223
  | dLDIFF  -- `dLDIFF`, 0xDF0, R224
  | dRDIFF  -- `dRDIFF`, 0xDF2, R225
  | mLAPF1  -- `mLAPF1`, 0xDF4, R226
  | mRAPF1  -- `mRAPF1`, 0xDF6, R227
  | mLAPF2  -- `mLAPF2`, 0xDF8, R228
  | mRAPF2  -- `mRAPF2`, 0xDFA, R229
  | vLIN  -- `vLIN`, 0xDFC, R230
  | vRIN  -- `vRIN`, 0xDFE, R231
deriving DecidableEq, Repr

/-- A transaction as an agent presents it (R110): the selector word, kind in bits 15:12 and offset in bits 11:0, and the
operand data that the selector does not hold, as one natural number whose bit 0 follows the selector's bit 15 (log 2). -/
structure Transaction where
  selector : BitVec 16
  operand : Nat
deriving DecidableEq, Repr

/-- Why a presented word is no transaction of the block. -/
inductive DecodeError where
  /-- Kinds 0x6, 0x7, 0xC, 0xD "are not used" (R111). -/
  | unusedKind (kind : Nat)
  /-- An even offset of a 16-bit access outside 0xC00..0xE7F: "never presented to the block" (R112). -/
  | outsideWindow (off : Offset)
  /-- The offset field of an entry point is 0 (R110, R111); this one is not. -/
  | badEntryOffset (off : Offset)
  /-- Kind `INT` with a number that names no micro-operation of the opcode table. -/
  | unknownMicroOp (op : Offset)
  /-- The operand has a bit above the width that R111 gives the kind. -/
  | operandTooWide
  /-- A micro-operation on a voice that does not exist (R1: 24 voices). -/
  | noSuchVoice (n : Nat)
  /-- `PitchAdvance` with a step above the cap 0x4000 of R285. -/
  | stepAboveCap (step : Nat)
deriving DecidableEq, Repr

/-- A transaction or micro-operation with its operands: one constructor per mnemonic of spec/opcode_table.json. -/
inductive Instr where
  | rd16VolL (n : VoiceId)  -- `RD16.VOL_L`, R160
  | rd16VolR (n : VoiceId)  -- `RD16.VOL_R`, R161
  | rd16Pitch (n : VoiceId)  -- `RD16.PITCH`, R162
  | rd16Start (n : VoiceId)  -- `RD16.START`, R163
  | rd16AdsrLo (n : VoiceId)  -- `RD16.ADSR_LO`, R164
  | rd16AdsrHi (n : VoiceId)  -- `RD16.ADSR_HI`, R165
  | rd16Env (n : VoiceId)  -- `RD16.ENV`, R166
  | rd16Repeat (n : VoiceId)  -- `RD16.REPEAT`, R167
  | wr16VolL (n : VoiceId) (v : Half)  -- `WR16.VOL_L`, R160
  | wr16VolR (n : VoiceId) (v : Half)  -- `WR16.VOL_R`, R161
  | wr16Pitch (n : VoiceId) (v : Half)  -- `WR16.PITCH`, R162
  | wr16Start (n : VoiceId) (v : Half)  -- `WR16.START`, R163
  | wr16AdsrLo (n : VoiceId) (v : Half)  -- `WR16.ADSR_LO`, R164
  | wr16AdsrHi (n : VoiceId) (v : Half)  -- `WR16.ADSR_HI`, R165
  | wr16Env (n : VoiceId) (v : Half)  -- `WR16.ENV`, R166
  | wr16Repeat (n : VoiceId) (v : Half)  -- `WR16.REPEAT`, R167
  | rd16MvolL  -- `RD16.MVOL_L`, R170
  | wr16MvolL (v : Half)  -- `WR16.MVOL_L`, R170
  | rd16MvolR  -- `RD16.MVOL_R`, R171
  | wr16MvolR (v : Half)  -- `WR16.MVOL_R`, R171
  | rd16VLOUT  -- `RD16.vLOUT`, R172
  | wr16VLOUT (v : Half)  -- `WR16.vLOUT`, R172
  | rd16VROUT  -- `RD16.vROUT`, R173
  | wr16VROUT (v : Half)  -- `WR16.vROUT`, R173
  | rd16KonLo  -- `RD16.KON_LO`, R174
  | wr16KonLo (v : Half)  -- `WR16.KON_LO`, R174
  | rd16KonHi  -- `RD16.KON_HI`, R175
  | wr16KonHi (v : Half)  -- `WR16.KON_HI`, R175
  | rd16KoffLo  -- `RD16.KOFF_LO`, R176
  | wr16KoffLo (v : Half)  -- `WR16.KOFF_LO`, R176
  | rd16KoffHi  -- `RD16.KOFF_HI`, R177
  | wr16KoffHi (v : Half)  -- `WR16.KOFF_HI`, R177
  | rd16PmonLo  -- `RD16.PMON_LO`, R178
  | wr16PmonLo (v : Half)  -- `WR16.PMON_LO`, R178
  | rd16PmonHi  -- `RD16.PMON_HI`, R179
  | wr16PmonHi (v : Half)  -- `WR16.PMON_HI`, R179
  | rd16NonLo  -- `RD16.NON_LO`, R180
  | wr16NonLo (v : Half)  -- `WR16.NON_LO`, R180
  | rd16NonHi  -- `RD16.NON_HI`, R181
  | wr16NonHi (v : Half)  -- `WR16.NON_HI`, R181
  | rd16EonLo  -- `RD16.EON_LO`, R182
  | wr16EonLo (v : Half)  -- `WR16.EON_LO`, R182
  | rd16EonHi  -- `RD16.EON_HI`, R183
  | wr16EonHi (v : Half)  -- `WR16.EON_HI`, R183
  | rd16EndxLo  -- `RD16.ENDX_LO`, R184
  | wr16EndxLo (v : Half)  -- `WR16.ENDX_LO`, R184
  | rd16EndxHi  -- `RD16.ENDX_HI`, R185
  | wr16EndxHi (v : Half)  -- `WR16.ENDX_HI`, R185
  | rd16Mbase  -- `RD16.MBASE`, R186
  | wr16Mbase (v : Half)  -- `WR16.MBASE`, R186
  | rd16IrqAddr  -- `RD16.IRQ_ADDR`, R187
  | wr16IrqAddr (v : Half)  -- `WR16.IRQ_ADDR`, R187
  | rd16XferAddr  -- `RD16.XFER_ADDR`, R188
  | wr16XferAddr (v : Half)  -- `WR16.XFER_ADDR`, R188
  | rd16XferPort  -- `RD16.XFER_PORT`, R155
  | wr16XferPort (v : Half)  -- `WR16.XFER_PORT`, R189
  | rd16Spucnt  -- `RD16.SPUCNT`, R190
  | wr16Spucnt (v : Half)  -- `WR16.SPUCNT`, R190
  | rd16Spustat  -- `RD16.SPUSTAT`, R191
  | wr16Spustat (v : Half)  -- `WR16.SPUSTAT`, R191
  | rd16CdvolL  -- `RD16.CDVOL_L`, R192
  | wr16CdvolL (v : Half)  -- `WR16.CDVOL_L`, R192
  | rd16CdvolR  -- `RD16.CDVOL_R`, R193
  | wr16CdvolR (v : Half)  -- `WR16.CDVOL_R`, R193
  | rd16ExtvolL  -- `RD16.EXTVOL_L`, R194
  | wr16ExtvolL (v : Half)  -- `WR16.EXTVOL_L`, R194
  | rd16ExtvolR  -- `RD16.EXTVOL_R`, R195
  | wr16ExtvolR (v : Half)  -- `WR16.EXTVOL_R`, R195
  | rd16DAPF1  -- `RD16.dAPF1`, R200
  | wr16DAPF1 (v : Half)  -- `WR16.dAPF1`, R200
  | rd16DAPF2  -- `RD16.dAPF2`, R201
  | wr16DAPF2 (v : Half)  -- `WR16.dAPF2`, R201
  | rd16VIIR  -- `RD16.vIIR`, R202
  | wr16VIIR (v : Half)  -- `WR16.vIIR`, R202
  | rd16VCOMB1  -- `RD16.vCOMB1`, R203
  | wr16VCOMB1 (v : Half)  -- `WR16.vCOMB1`, R203
  | rd16VCOMB2  -- `RD16.vCOMB2`, R204
  | wr16VCOMB2 (v : Half)  -- `WR16.vCOMB2`, R204
  | rd16VCOMB3  -- `RD16.vCOMB3`, R205
  | wr16VCOMB3 (v : Half)  -- `WR16.vCOMB3`, R205
  | rd16VCOMB4  -- `RD16.vCOMB4`, R206
  | wr16VCOMB4 (v : Half)  -- `WR16.vCOMB4`, R206
  | rd16VWALL  -- `RD16.vWALL`, R207
  | wr16VWALL (v : Half)  -- `WR16.vWALL`, R207
  | rd16VAPF1  -- `RD16.vAPF1`, R208
  | wr16VAPF1 (v : Half)  -- `WR16.vAPF1`, R208
  | rd16VAPF2  -- `RD16.vAPF2`, R209
  | wr16VAPF2 (v : Half)  -- `WR16.vAPF2`, R209
  | rd16MLSAME  -- `RD16.mLSAME`, R210
  | wr16MLSAME (v : Half)  -- `WR16.mLSAME`, R210
  | rd16MRSAME  -- `RD16.mRSAME`, R211
  | wr16MRSAME (v : Half)  -- `WR16.mRSAME`, R211
  | rd16MLCOMB1  -- `RD16.mLCOMB1`, R212
  | wr16MLCOMB1 (v : Half)  -- `WR16.mLCOMB1`, R212
  | rd16MRCOMB1  -- `RD16.mRCOMB1`, R213
  | wr16MRCOMB1 (v : Half)  -- `WR16.mRCOMB1`, R213
  | rd16MLCOMB2  -- `RD16.mLCOMB2`, R214
  | wr16MLCOMB2 (v : Half)  -- `WR16.mLCOMB2`, R214
  | rd16MRCOMB2  -- `RD16.mRCOMB2`, R215
  | wr16MRCOMB2 (v : Half)  -- `WR16.mRCOMB2`, R215
  | rd16DLSAME  -- `RD16.dLSAME`, R216
  | wr16DLSAME (v : Half)  -- `WR16.dLSAME`, R216
  | rd16DRSAME  -- `RD16.dRSAME`, R217
  | wr16DRSAME (v : Half)  -- `WR16.dRSAME`, R217
  | rd16MLDIFF  -- `RD16.mLDIFF`, R218
  | wr16MLDIFF (v : Half)  -- `WR16.mLDIFF`, R218
  | rd16MRDIFF  -- `RD16.mRDIFF`, R219
  | wr16MRDIFF (v : Half)  -- `WR16.mRDIFF`, R219
  | rd16MLCOMB3  -- `RD16.mLCOMB3`, R220
  | wr16MLCOMB3 (v : Half)  -- `WR16.mLCOMB3`, R220
  | rd16MRCOMB3  -- `RD16.mRCOMB3`, R221
  | wr16MRCOMB3 (v : Half)  -- `WR16.mRCOMB3`, R221
  | rd16MLCOMB4  -- `RD16.mLCOMB4`, R222
  | wr16MLCOMB4 (v : Half)  -- `WR16.mLCOMB4`, R222
  | rd16MRCOMB4  -- `RD16.mRCOMB4`, R223
  | wr16MRCOMB4 (v : Half)  -- `WR16.mRCOMB4`, R223
  | rd16DLDIFF  -- `RD16.dLDIFF`, R224
  | wr16DLDIFF (v : Half)  -- `WR16.dLDIFF`, R224
  | rd16DRDIFF  -- `RD16.dRDIFF`, R225
  | wr16DRDIFF (v : Half)  -- `WR16.dRDIFF`, R225
  | rd16MLAPF1  -- `RD16.mLAPF1`, R226
  | wr16MLAPF1 (v : Half)  -- `WR16.mLAPF1`, R226
  | rd16MRAPF1  -- `RD16.mRAPF1`, R227
  | wr16MRAPF1 (v : Half)  -- `WR16.mRAPF1`, R227
  | rd16MLAPF2  -- `RD16.mLAPF2`, R228
  | wr16MLAPF2 (v : Half)  -- `WR16.mLAPF2`, R228
  | rd16MRAPF2  -- `RD16.mRAPF2`, R229
  | wr16MRAPF2 (v : Half)  -- `WR16.mRAPF2`, R229
  | rd16VLIN  -- `RD16.vLIN`, R230
  | wr16VLIN (v : Half)  -- `WR16.vLIN`, R230
  | rd16VRIN  -- `RD16.vRIN`, R231
  | wr16VRIN (v : Half)  -- `WR16.vRIN`, R231
  | rd16UnrecDA0  -- `RD16.UNREC_DA0`, R155
  | rd16UnrecDAC  -- `RD16.UNREC_DAC`, R155
  | rd16UnrecDB8  -- `RD16.UNREC_DB8`, R155
  | rd16UnrecDBA  -- `RD16.UNREC_DBA`, R155
  | rd16UnrecDBC  -- `RD16.UNREC_DBC`, R155
  | rd16UnrecDBE  -- `RD16.UNREC_DBE`, R155
  | rd16UnrecE00 (off : Offset)  -- `RD16.UNREC_E00`, R155
  | rd16Misaligned (off : Offset)  -- `RD16.MISALIGNED`, R156
  | wr16UnrecDA0 (v : Half)  -- `WR16.UNREC_DA0`, R155
  | wr16UnrecDAC (v : Half)  -- `WR16.UNREC_DAC`, R155
  | wr16UnrecDB8 (v : Half)  -- `WR16.UNREC_DB8`, R155
  | wr16UnrecDBA (v : Half)  -- `WR16.UNREC_DBA`, R155
  | wr16UnrecDBC (v : Half)  -- `WR16.UNREC_DBC`, R155
  | wr16UnrecDBE (v : Half)  -- `WR16.UNREC_DBE`, R155
  | wr16UnrecE00 (off : Offset) (v : Half)  -- `WR16.UNREC_E00`, R155
  | wr16Misaligned (off : Offset) (v : Half)  -- `WR16.MISALIGNED`, R156
  | rd8 (off : Offset)  -- `RD8`, R151
  | wr8 (off : Offset) (b : Byte)  -- `WR8`, R154
  | rd32 (off : Offset)  -- `RD32`, R152
  | wr32 (off : Offset) (w : Word)  -- `WR32`, R153
  | dmaRd  -- `DMA_RD`, R411
  | dmaWr (w : Word)  -- `DMA_WR`, R410
  | tick (cycles : Nat)  -- `TICK`, R340
  | cdPush (l r : Half)  -- `CD_PUSH`, R353
  | reset  -- `RESET`, R470
  | intKeyOn (n : VoiceId)  -- `INT.KeyOn`, R271
  | intKeyOff (n : VoiceId)  -- `INT.KeyOff`, R272
  | intVoiceStep (n : VoiceId)  -- `INT.VoiceStep`, R270
  | intDecodeBlock (n : VoiceId)  -- `INT.DecodeBlock`, R274
  | intInterpolate (n : VoiceId)  -- `INT.Interpolate`, R281
  | intEffectiveStep (n : VoiceId)  -- `INT.EffectiveStep`, R285
  | intPitchAdvance (n : VoiceId) (step : BitVec 15)  -- `INT.PitchAdvance`, R286
  | intAdsrTick (n : VoiceId)  -- `INT.AdsrTick`, R310
  | intMixStep  -- `INT.MixStep`, R341
  | intKeyLatch  -- `INT.KeyLatch`, R342
  | intCaptureWrite (cl cr : Half)  -- `INT.CaptureWrite`, R346
  | intFinalMix (dryL dryR : BitVec 21)  -- `INT.FinalMix`, R349
  | intOutputAppend (outL outR : Half)  -- `INT.OutputAppend`, R351
  | intReverb (inL inR : Half)  -- `INT.Reverb`, R380
deriving DecidableEq, Repr

/-- What decoding answers: an instruction, or a rejection by name. -/
inductive Decoded where
  | instr (i : Instr)
  | rejected (e : DecodeError)
deriving DecidableEq, Repr

end Sys2Proof
end

