-- ==== Sys2Proof/WellFormed.lean ====
section
/-! DEFINITION. Which terms of `Instr` are transactions of the opcode table: the conditions on operands that their types do
not already hold. Voice numbers and register widths are in the types; every other constructor is well formed as it stands. -/

namespace Sys2Proof

/-- The even offsets 0xE00 to 0xE7E, where the window holds no register (R112, R126). -/
def offsetInTail (off : Offset) : Bool :=
  decide (0xE00 ≤ off.toNat ∧ off.toNat ≤ 0xE7E) && decide (off.toNat % 2 = 0)

/-- An odd offset, which R156 calls misaligned for a 16-bit access. -/
def offsetIsOdd (off : Offset) : Bool := decide (off.toNat % 2 = 1)

/-- Well-formedness of a transaction: the rows `UNREC_E00` and `MISALIGNED` stand for the offsets of their masks only, and
`PitchAdvance` takes a step that R285 can produce (at most 0x4000). -/
def Instr.wf : Instr → Bool
  | .rd16UnrecE00 off => offsetInTail off
  | .wr16UnrecE00 off _ => offsetInTail off
  | .rd16Misaligned off => offsetIsOdd off
  | .wr16Misaligned off _ => offsetIsOdd off
  | .intPitchAdvance _ step => decide (step.toNat ≤ 0x4000)
  | _ => true

/-- A micro-operation, which the block performs inside `TICK` and no outside agent presents (R12, R111). -/
def Instr.isInternal : Instr → Bool
  | .intKeyOn _ | .intKeyOff _ | .intVoiceStep _ | .intDecodeBlock _ | .intInterpolate _ | .intEffectiveStep _ => true
  | .intPitchAdvance _ _ | .intAdsrTick _ | .intMixStep | .intKeyLatch | .intCaptureWrite _ _ | .intFinalMix _ _ => true
  | .intOutputAppend _ _ | .intReverb _ _ => true
  | _ => false

end Sys2Proof
end

