-- ==== Sys2Proof/Decode.lean ====
section
/-! DEFINITION. The decoder of presented transactions, total and rejecting by name, and after it the encoder: both from the
selector word of spec/30_encoding.md R110, the kinds of R111 and the register map of R112 to R115, R126. -/

namespace Sys2Proof

/-- The window offset of a bus address: its low 12 bits (R90). -/
def windowOffset (busAddress : Nat) : Offset := BitVec.ofNat 12 busAddress

/-! ### The register map -/

/-- The sub-offset of a voice register (R113). -/
def VoiceReg.sub : VoiceReg → Nat
  | .volL => 0x0
  | .volR => 0x2
  | .pitch => 0x4
  | .start => 0x6
  | .adsrLo => 0x8
  | .adsrHi => 0xA
  | .env => 0xC
  | .repeatAddr => 0xE

/-- The voice register at a sub-offset (R113). -/
def voiceRegAt : Nat → Option VoiceReg
  | 0x0 => some .volL
  | 0x2 => some .volR
  | 0x4 => some .pitch
  | 0x6 => some .start
  | 0x8 => some .adsrLo
  | 0xA => some .adsrHi
  | 0xC => some .env
  | 0xE => some .repeatAddr
  | _ => none

/-- The global registers by offset (R114). -/
def globalMap : List (Nat × Reg) :=
  [(0xD80, .mvolL), (0xD82, .mvolR), (0xD84, .vLOUT), (0xD86, .vROUT),
   (0xD88, .konLo), (0xD8A, .konHi), (0xD8C, .koffLo), (0xD8E, .koffHi),
   (0xD90, .pmonLo), (0xD92, .pmonHi), (0xD94, .nonLo), (0xD96, .nonHi),
   (0xD98, .eonLo), (0xD9A, .eonHi), (0xD9C, .endxLo), (0xD9E, .endxHi),
   (0xDA2, .mbase), (0xDA4, .irqAddr), (0xDA6, .xferAddr), (0xDA8, .xferPort),
   (0xDAA, .spucnt), (0xDAE, .spustat), (0xDB0, .cdvolL), (0xDB2, .cdvolR),
   (0xDB4, .extvolL), (0xDB6, .extvolR)]

/-- The reverb registers by offset (R115). -/
def reverbMap : List (Nat × Reg) :=
  [(0xDC0, .dAPF1), (0xDC2, .dAPF2), (0xDC4, .vIIR), (0xDC6, .vCOMB1),
   (0xDC8, .vCOMB2), (0xDCA, .vCOMB3), (0xDCC, .vCOMB4), (0xDCE, .vWALL),
   (0xDD0, .vAPF1), (0xDD2, .vAPF2), (0xDD4, .mLSAME), (0xDD6, .mRSAME),
   (0xDD8, .mLCOMB1), (0xDDA, .mRCOMB1), (0xDDC, .mLCOMB2), (0xDDE, .mRCOMB2),
   (0xDE0, .dLSAME), (0xDE2, .dRSAME), (0xDE4, .mLDIFF), (0xDE6, .mRDIFF),
   (0xDE8, .mLCOMB3), (0xDEA, .mRCOMB3), (0xDEC, .mLCOMB4), (0xDEE, .mRCOMB4),
   (0xDF0, .dLDIFF), (0xDF2, .dRDIFF), (0xDF4, .mLAPF1), (0xDF6, .mRAPF1),
   (0xDF8, .mLAPF2), (0xDFA, .mRAPF2), (0xDFC, .vLIN), (0xDFE, .vRIN)]

/-- The entry that a table of offsets gives an offset. -/
def lookupOffset {α : Type} : List (Nat × α) → Nat → Option α
  | [], _ => none
  | (o, x) :: rest, off => if o = off then some x else lookupOffset rest off

/-- The register at a window offset (R112): below 0xD80 the voice `off[11:4] - 0xC0` and the register `off[3:0]` inside it,
above it a global or reverb register selected by the whole offset; none elsewhere (R126). -/
def regAt (off : Offset) : Option Reg :=
  if h : 0xC00 ≤ off.toNat ∧ off.toNat ≤ 0xD7F then
    (voiceRegAt (off.toNat % 16)).map fun r => .voice r ⟨off.toNat / 16 - 0xC0, by omega⟩
  else lookupOffset (globalMap ++ reverbMap) off.toNat

/-- The offset of a register: the inverse of `regAt` (R113 to R115). -/
def Reg.offset : Reg → Nat
  | .voice r n => 0xC00 + 0x10 * n.val + r.sub
  | .mvolL => 0xD80
  | .mvolR => 0xD82
  | .vLOUT => 0xD84
  | .vROUT => 0xD86
  | .konLo => 0xD88
  | .konHi => 0xD8A
  | .koffLo => 0xD8C
  | .koffHi => 0xD8E
  | .pmonLo => 0xD90
  | .pmonHi => 0xD92
  | .nonLo => 0xD94
  | .nonHi => 0xD96
  | .eonLo => 0xD98
  | .eonHi => 0xD9A
  | .endxLo => 0xD9C
  | .endxHi => 0xD9E
  | .mbase => 0xDA2
  | .irqAddr => 0xDA4
  | .xferAddr => 0xDA6
  | .xferPort => 0xDA8
  | .spucnt => 0xDAA
  | .spustat => 0xDAE
  | .cdvolL => 0xDB0
  | .cdvolR => 0xDB2
  | .extvolL => 0xDB4
  | .extvolR => 0xDB6
  | .dAPF1 => 0xDC0
  | .dAPF2 => 0xDC2
  | .vIIR => 0xDC4
  | .vCOMB1 => 0xDC6
  | .vCOMB2 => 0xDC8
  | .vCOMB3 => 0xDCA
  | .vCOMB4 => 0xDCC
  | .vWALL => 0xDCE
  | .vAPF1 => 0xDD0
  | .vAPF2 => 0xDD2
  | .mLSAME => 0xDD4
  | .mRSAME => 0xDD6
  | .mLCOMB1 => 0xDD8
  | .mRCOMB1 => 0xDDA
  | .mLCOMB2 => 0xDDC
  | .mRCOMB2 => 0xDDE
  | .dLSAME => 0xDE0
  | .dRSAME => 0xDE2
  | .mLDIFF => 0xDE4
  | .mRDIFF => 0xDE6
  | .mLCOMB3 => 0xDE8
  | .mRCOMB3 => 0xDEA
  | .mLCOMB4 => 0xDEC
  | .mRCOMB4 => 0xDEE
  | .dLDIFF => 0xDF0
  | .dRDIFF => 0xDF2
  | .mLAPF1 => 0xDF4
  | .mRAPF1 => 0xDF6
  | .mLAPF2 => 0xDF8
  | .mRAPF2 => 0xDFA
  | .vLIN => 0xDFC
  | .vRIN => 0xDFE

/-! ### Decoding -/

/-- The half-word read of a recognised register. -/
def rd16Of : Reg → Instr
  | .voice .volL n => .rd16VolL n
  | .voice .volR n => .rd16VolR n
  | .voice .pitch n => .rd16Pitch n
  | .voice .start n => .rd16Start n
  | .voice .adsrLo n => .rd16AdsrLo n
  | .voice .adsrHi n => .rd16AdsrHi n
  | .voice .env n => .rd16Env n
  | .voice .repeatAddr n => .rd16Repeat n
  | .mvolL => .rd16MvolL
  | .mvolR => .rd16MvolR
  | .vLOUT => .rd16VLOUT
  | .vROUT => .rd16VROUT
  | .konLo => .rd16KonLo
  | .konHi => .rd16KonHi
  | .koffLo => .rd16KoffLo
  | .koffHi => .rd16KoffHi
  | .pmonLo => .rd16PmonLo
  | .pmonHi => .rd16PmonHi
  | .nonLo => .rd16NonLo
  | .nonHi => .rd16NonHi
  | .eonLo => .rd16EonLo
  | .eonHi => .rd16EonHi
  | .endxLo => .rd16EndxLo
  | .endxHi => .rd16EndxHi
  | .mbase => .rd16Mbase
  | .irqAddr => .rd16IrqAddr
  | .xferAddr => .rd16XferAddr
  | .xferPort => .rd16XferPort
  | .spucnt => .rd16Spucnt
  | .spustat => .rd16Spustat
  | .cdvolL => .rd16CdvolL
  | .cdvolR => .rd16CdvolR
  | .extvolL => .rd16ExtvolL
  | .extvolR => .rd16ExtvolR
  | .dAPF1 => .rd16DAPF1
  | .dAPF2 => .rd16DAPF2
  | .vIIR => .rd16VIIR
  | .vCOMB1 => .rd16VCOMB1
  | .vCOMB2 => .rd16VCOMB2
  | .vCOMB3 => .rd16VCOMB3
  | .vCOMB4 => .rd16VCOMB4
  | .vWALL => .rd16VWALL
  | .vAPF1 => .rd16VAPF1
  | .vAPF2 => .rd16VAPF2
  | .mLSAME => .rd16MLSAME
  | .mRSAME => .rd16MRSAME
  | .mLCOMB1 => .rd16MLCOMB1
  | .mRCOMB1 => .rd16MRCOMB1
  | .mLCOMB2 => .rd16MLCOMB2
  | .mRCOMB2 => .rd16MRCOMB2
  | .dLSAME => .rd16DLSAME
  | .dRSAME => .rd16DRSAME
  | .mLDIFF => .rd16MLDIFF
  | .mRDIFF => .rd16MRDIFF
  | .mLCOMB3 => .rd16MLCOMB3
  | .mRCOMB3 => .rd16MRCOMB3
  | .mLCOMB4 => .rd16MLCOMB4
  | .mRCOMB4 => .rd16MRCOMB4
  | .dLDIFF => .rd16DLDIFF
  | .dRDIFF => .rd16DRDIFF
  | .mLAPF1 => .rd16MLAPF1
  | .mRAPF1 => .rd16MRAPF1
  | .mLAPF2 => .rd16MLAPF2
  | .mRAPF2 => .rd16MRAPF2
  | .vLIN => .rd16VLIN
  | .vRIN => .rd16VRIN

/-- The half-word write of a register. -/
def wr16Of : Reg → Half → Instr
  | .voice .volL n, v => .wr16VolL n v
  | .voice .volR n, v => .wr16VolR n v
  | .voice .pitch n, v => .wr16Pitch n v
  | .voice .start n, v => .wr16Start n v
  | .voice .adsrLo n, v => .wr16AdsrLo n v
  | .voice .adsrHi n, v => .wr16AdsrHi n v
  | .voice .env n, v => .wr16Env n v
  | .voice .repeatAddr n, v => .wr16Repeat n v
  | .mvolL, v => .wr16MvolL v
  | .mvolR, v => .wr16MvolR v
  | .vLOUT, v => .wr16VLOUT v
  | .vROUT, v => .wr16VROUT v
  | .konLo, v => .wr16KonLo v
  | .konHi, v => .wr16KonHi v
  | .koffLo, v => .wr16KoffLo v
  | .koffHi, v => .wr16KoffHi v
  | .pmonLo, v => .wr16PmonLo v
  | .pmonHi, v => .wr16PmonHi v
  | .nonLo, v => .wr16NonLo v
  | .nonHi, v => .wr16NonHi v
  | .eonLo, v => .wr16EonLo v
  | .eonHi, v => .wr16EonHi v
  | .endxLo, v => .wr16EndxLo v
  | .endxHi, v => .wr16EndxHi v
  | .mbase, v => .wr16Mbase v
  | .irqAddr, v => .wr16IrqAddr v
  | .xferAddr, v => .wr16XferAddr v
  | .xferPort, v => .wr16XferPort v
  | .spucnt, v => .wr16Spucnt v
  | .spustat, v => .wr16Spustat v
  | .cdvolL, v => .wr16CdvolL v
  | .cdvolR, v => .wr16CdvolR v
  | .extvolL, v => .wr16ExtvolL v
  | .extvolR, v => .wr16ExtvolR v
  | .dAPF1, v => .wr16DAPF1 v
  | .dAPF2, v => .wr16DAPF2 v
  | .vIIR, v => .wr16VIIR v
  | .vCOMB1, v => .wr16VCOMB1 v
  | .vCOMB2, v => .wr16VCOMB2 v
  | .vCOMB3, v => .wr16VCOMB3 v
  | .vCOMB4, v => .wr16VCOMB4 v
  | .vWALL, v => .wr16VWALL v
  | .vAPF1, v => .wr16VAPF1 v
  | .vAPF2, v => .wr16VAPF2 v
  | .mLSAME, v => .wr16MLSAME v
  | .mRSAME, v => .wr16MRSAME v
  | .mLCOMB1, v => .wr16MLCOMB1 v
  | .mRCOMB1, v => .wr16MRCOMB1 v
  | .mLCOMB2, v => .wr16MLCOMB2 v
  | .mRCOMB2, v => .wr16MRCOMB2 v
  | .dLSAME, v => .wr16DLSAME v
  | .dRSAME, v => .wr16DRSAME v
  | .mLDIFF, v => .wr16MLDIFF v
  | .mRDIFF, v => .wr16MRDIFF v
  | .mLCOMB3, v => .wr16MLCOMB3 v
  | .mRCOMB3, v => .wr16MRCOMB3 v
  | .mLCOMB4, v => .wr16MLCOMB4 v
  | .mRCOMB4, v => .wr16MRCOMB4 v
  | .dLDIFF, v => .wr16DLDIFF v
  | .dRDIFF, v => .wr16DRDIFF v
  | .mLAPF1, v => .wr16MLAPF1 v
  | .mRAPF1, v => .wr16MRAPF1 v
  | .mLAPF2, v => .wr16MLAPF2 v
  | .mRAPF2, v => .wr16MRAPF2 v
  | .vLIN, v => .wr16VLIN v
  | .vRIN, v => .wr16VRIN v

/-- An instruction whose kind takes no operand (R111). -/
def withNone (operand : Nat) (i : Instr) : Decoded :=
  if operand = 0 then .instr i else .rejected .operandTooWide

/-- An instruction whose operand is `w` bits wide (R111). -/
def withBits (w operand : Nat) (f : BitVec w → Instr) : Decoded :=
  if operand < 2 ^ w then .instr (f (BitVec.ofNat w operand)) else .rejected .operandTooWide

/-- An instruction with two operands of `w` bits, the first in the low bits (log 2). -/
def withPair (w operand : Nat) (f : BitVec w → BitVec w → Instr) : Decoded :=
  if operand < 2 ^ (w + w) then .instr (f (BitVec.ofNat w operand) (BitVec.ofNat w (operand / 2 ^ w)))
  else .rejected .operandTooWide

/-- A micro-operation on a voice (log 3). -/
def withVoice (operand : Nat) (f : VoiceId → Instr) : Decoded :=
  if h : operand < 24 then .instr (f ⟨operand, h⟩) else .rejected (.noSuchVoice operand)

/-- `PitchAdvance(n, step)`: the voice in bits 4:0, the step above (log 3). -/
def withVoiceStep (operand : Nat) (f : VoiceId → BitVec 15 → Instr) : Decoded :=
  if h : operand % 32 < 24 then
    if operand / 32 ≤ 0x4000 then .instr (f ⟨operand % 32, h⟩ (BitVec.ofNat 15 (operand / 32)))
    else .rejected (.stepAboveCap (operand / 32))
  else .rejected (.noSuchVoice (operand % 32))

/-- An entry point, whose offset field is 0 (R110, R111). -/
def atEntry (off : Offset) (d : Decoded) : Decoded :=
  if off.toNat = 0 then d else .rejected (.badEntryOffset off)

/-- The rows `RD16.UNREC_*` of single offsets (R126). -/
def unrecRd16 : List (Nat × Instr) :=
  [(0xDA0, .rd16UnrecDA0), (0xDAC, .rd16UnrecDAC), (0xDB8, .rd16UnrecDB8), (0xDBA, .rd16UnrecDBA),
   (0xDBC, .rd16UnrecDBC), (0xDBE, .rd16UnrecDBE)]

/-- The rows `WR16.UNREC_*` of single offsets (R126). -/
def unrecWr16 : List (Nat × (Half → Instr)) :=
  [(0xDA0, .wr16UnrecDA0), (0xDAC, .wr16UnrecDAC), (0xDB8, .wr16UnrecDB8), (0xDBA, .wr16UnrecDBA),
   (0xDBC, .wr16UnrecDBC), (0xDBE, .wr16UnrecDBE)]

/-- The half-word read at an offset that holds no register (R126, R156), if the table has a row for it. -/
def rd16Other (off : Offset) : Option Instr :=
  if offsetIsOdd off then some (.rd16Misaligned off)
  else if offsetInTail off then some (.rd16UnrecE00 off)
  else lookupOffset unrecRd16 off.toNat

/-- The half-word write at an offset that holds no register (R126, R156), if the table has a row for it. -/
def wr16Other (off : Offset) : Option (Half → Instr) :=
  if offsetIsOdd off then some (.wr16Misaligned off)
  else if offsetInTail off then some (.wr16UnrecE00 off)
  else lookupOffset unrecWr16 off.toNat

/-- `RD16 off` (R150). -/
def decodeRd16 (off : Offset) (operand : Nat) : Decoded :=
  match regAt off with
  | some r => withNone operand (rd16Of r)
  | none =>
    match rd16Other off with
    | some i => withNone operand i
    | none => .rejected (.outsideWindow off)

/-- `WR16 off, v` (R150). -/
def decodeWr16 (off : Offset) (operand : Nat) : Decoded :=
  match regAt off with
  | some r => withBits 16 operand (wr16Of r)
  | none =>
    match wr16Other off with
    | some f => withBits 16 operand f
    | none => .rejected (.outsideWindow off)

/-- Kind `INT`: the micro-operation numbered by the offset field (R111). -/
def decodeInt (off : Offset) (operand : Nat) : Decoded :=
  match off.toNat with
  | 0x01 => withVoice operand .intKeyOn
  | 0x02 => withVoice operand .intKeyOff
  | 0x03 => withVoice operand .intVoiceStep
  | 0x04 => withVoice operand .intDecodeBlock
  | 0x05 => withVoice operand .intInterpolate
  | 0x06 => withVoice operand .intEffectiveStep
  | 0x07 => withVoiceStep operand .intPitchAdvance
  | 0x08 => withVoice operand .intAdsrTick
  | 0x10 => withNone operand .intMixStep
  | 0x11 => withNone operand .intKeyLatch
  | 0x12 => withPair 16 operand .intCaptureWrite
  | 0x13 => withPair 21 operand .intFinalMix
  | 0x14 => withPair 16 operand .intOutputAppend
  | 0x20 => withPair 16 operand .intReverb
  | _ => .rejected (.unknownMicroOp off)

/-- The transaction that a presented selector and operand stand for (R110, R111): total, rejecting by name. -/
def decode (t : Transaction) : Decoded :=
  let off : Offset := t.selector.extractLsb' 0 12
  match t.selector.toNat / 0x1000 with
  | 0x0 => decodeRd16 off t.operand
  | 0x1 => decodeWr16 off t.operand
  | 0x2 => withNone t.operand (.rd8 off)
  | 0x3 => withBits 8 t.operand (.wr8 off)
  | 0x4 => withNone t.operand (.rd32 off)
  | 0x5 => withBits 32 t.operand (.wr32 off)
  | 0x8 => atEntry off (withNone t.operand .dmaRd)
  | 0x9 => atEntry off (withBits 32 t.operand .dmaWr)
  | 0xA => atEntry off (.instr (.tick t.operand))
  | 0xB => atEntry off (withPair 16 t.operand .cdPush)
  | 0xE => decodeInt off t.operand
  | 0xF => atEntry off (withNone t.operand .reset)
  | k => .rejected (.unusedKind k)

/-- The transaction in `w`, numbered as spec/opcode_table.json numbers its rows: the selector in bits 15:0 and the operand
from bit 16 on; bits at `nbits` and above are 0. -/
def Transaction.ofTableWord (nbits w : Nat) : Transaction where
  selector := BitVec.ofNat 16 (w % 2 ^ nbits)
  operand := w % 2 ^ nbits / 0x10000

/-- What the decoder reads from a word of the opcode table, if it reads one. -/
def decodeTableWord (nbits w : Nat) : Option Instr :=
  match decode (Transaction.ofTableWord nbits w) with
  | .instr i => some i
  | .rejected _ => none

/-! ### Encoding -/

/-- A transaction of kind `kind` at offset `off` (R110). -/
def presented (kind off operand : Nat) : Transaction where
  selector := BitVec.ofNat 16 (kind * 0x1000 + off)
  operand := operand

/-- Two operands of `w` bits, the first in the low bits (log 2). -/
def packPair {w : Nat} (x y : BitVec w) : Nat := x.toNat + 2 ^ w * y.toNat

/-- The presented form of an instruction (R110 to R115, R128). -/
def encode : Instr → Transaction
  | .rd16VolL n => presented 0 (Reg.voice .volL n).offset 0
  | .rd16VolR n => presented 0 (Reg.voice .volR n).offset 0
  | .rd16Pitch n => presented 0 (Reg.voice .pitch n).offset 0
  | .rd16Start n => presented 0 (Reg.voice .start n).offset 0
  | .rd16AdsrLo n => presented 0 (Reg.voice .adsrLo n).offset 0
  | .rd16AdsrHi n => presented 0 (Reg.voice .adsrHi n).offset 0
  | .rd16Env n => presented 0 (Reg.voice .env n).offset 0
  | .rd16Repeat n => presented 0 (Reg.voice .repeatAddr n).offset 0
  | .wr16VolL n v => presented 1 (Reg.voice .volL n).offset v.toNat
  | .wr16VolR n v => presented 1 (Reg.voice .volR n).offset v.toNat
  | .wr16Pitch n v => presented 1 (Reg.voice .pitch n).offset v.toNat
  | .wr16Start n v => presented 1 (Reg.voice .start n).offset v.toNat
  | .wr16AdsrLo n v => presented 1 (Reg.voice .adsrLo n).offset v.toNat
  | .wr16AdsrHi n v => presented 1 (Reg.voice .adsrHi n).offset v.toNat
  | .wr16Env n v => presented 1 (Reg.voice .env n).offset v.toNat
  | .wr16Repeat n v => presented 1 (Reg.voice .repeatAddr n).offset v.toNat
  | .rd16MvolL => presented 0 (Reg.offset .mvolL) 0
  | .wr16MvolL v => presented 1 (Reg.offset .mvolL) v.toNat
  | .rd16MvolR => presented 0 (Reg.offset .mvolR) 0
  | .wr16MvolR v => presented 1 (Reg.offset .mvolR) v.toNat
  | .rd16VLOUT => presented 0 (Reg.offset .vLOUT) 0
  | .wr16VLOUT v => presented 1 (Reg.offset .vLOUT) v.toNat
  | .rd16VROUT => presented 0 (Reg.offset .vROUT) 0
  | .wr16VROUT v => presented 1 (Reg.offset .vROUT) v.toNat
  | .rd16KonLo => presented 0 (Reg.offset .konLo) 0
  | .wr16KonLo v => presented 1 (Reg.offset .konLo) v.toNat
  | .rd16KonHi => presented 0 (Reg.offset .konHi) 0
  | .wr16KonHi v => presented 1 (Reg.offset .konHi) v.toNat
  | .rd16KoffLo => presented 0 (Reg.offset .koffLo) 0
  | .wr16KoffLo v => presented 1 (Reg.offset .koffLo) v.toNat
  | .rd16KoffHi => presented 0 (Reg.offset .koffHi) 0
  | .wr16KoffHi v => presented 1 (Reg.offset .koffHi) v.toNat
  | .rd16PmonLo => presented 0 (Reg.offset .pmonLo) 0
  | .wr16PmonLo v => presented 1 (Reg.offset .pmonLo) v.toNat
  | .rd16PmonHi => presented 0 (Reg.offset .pmonHi) 0
  | .wr16PmonHi v => presented 1 (Reg.offset .pmonHi) v.toNat
  | .rd16NonLo => presented 0 (Reg.offset .nonLo) 0
  | .wr16NonLo v => presented 1 (Reg.offset .nonLo) v.toNat
  | .rd16NonHi => presented 0 (Reg.offset .nonHi) 0
  | .wr16NonHi v => presented 1 (Reg.offset .nonHi) v.toNat
  | .rd16EonLo => presented 0 (Reg.offset .eonLo) 0
  | .wr16EonLo v => presented 1 (Reg.offset .eonLo) v.toNat
  | .rd16EonHi => presented 0 (Reg.offset .eonHi) 0
  | .wr16EonHi v => presented 1 (Reg.offset .eonHi) v.toNat
  | .rd16EndxLo => presented 0 (Reg.offset .endxLo) 0
  | .wr16EndxLo v => presented 1 (Reg.offset .endxLo) v.toNat
  | .rd16EndxHi => presented 0 (Reg.offset .endxHi) 0
  | .wr16EndxHi v => presented 1 (Reg.offset .endxHi) v.toNat
  | .rd16Mbase => presented 0 (Reg.offset .mbase) 0
  | .wr16Mbase v => presented 1 (Reg.offset .mbase) v.toNat
  | .rd16IrqAddr => presented 0 (Reg.offset .irqAddr) 0
  | .wr16IrqAddr v => presented 1 (Reg.offset .irqAddr) v.toNat
  | .rd16XferAddr => presented 0 (Reg.offset .xferAddr) 0
  | .wr16XferAddr v => presented 1 (Reg.offset .xferAddr) v.toNat
  | .rd16XferPort => presented 0 (Reg.offset .xferPort) 0
  | .wr16XferPort v => presented 1 (Reg.offset .xferPort) v.toNat
  | .rd16Spucnt => presented 0 (Reg.offset .spucnt) 0
  | .wr16Spucnt v => presented 1 (Reg.offset .spucnt) v.toNat
  | .rd16Spustat => presented 0 (Reg.offset .spustat) 0
  | .wr16Spustat v => presented 1 (Reg.offset .spustat) v.toNat
  | .rd16CdvolL => presented 0 (Reg.offset .cdvolL) 0
  | .wr16CdvolL v => presented 1 (Reg.offset .cdvolL) v.toNat
  | .rd16CdvolR => presented 0 (Reg.offset .cdvolR) 0
  | .wr16CdvolR v => presented 1 (Reg.offset .cdvolR) v.toNat
  | .rd16ExtvolL => presented 0 (Reg.offset .extvolL) 0
  | .wr16ExtvolL v => presented 1 (Reg.offset .extvolL) v.toNat
  | .rd16ExtvolR => presented 0 (Reg.offset .extvolR) 0
  | .wr16ExtvolR v => presented 1 (Reg.offset .extvolR) v.toNat
  | .rd16DAPF1 => presented 0 (Reg.offset .dAPF1) 0
  | .wr16DAPF1 v => presented 1 (Reg.offset .dAPF1) v.toNat
  | .rd16DAPF2 => presented 0 (Reg.offset .dAPF2) 0
  | .wr16DAPF2 v => presented 1 (Reg.offset .dAPF2) v.toNat
  | .rd16VIIR => presented 0 (Reg.offset .vIIR) 0
  | .wr16VIIR v => presented 1 (Reg.offset .vIIR) v.toNat
  | .rd16VCOMB1 => presented 0 (Reg.offset .vCOMB1) 0
  | .wr16VCOMB1 v => presented 1 (Reg.offset .vCOMB1) v.toNat
  | .rd16VCOMB2 => presented 0 (Reg.offset .vCOMB2) 0
  | .wr16VCOMB2 v => presented 1 (Reg.offset .vCOMB2) v.toNat
  | .rd16VCOMB3 => presented 0 (Reg.offset .vCOMB3) 0
  | .wr16VCOMB3 v => presented 1 (Reg.offset .vCOMB3) v.toNat
  | .rd16VCOMB4 => presented 0 (Reg.offset .vCOMB4) 0
  | .wr16VCOMB4 v => presented 1 (Reg.offset .vCOMB4) v.toNat
  | .rd16VWALL => presented 0 (Reg.offset .vWALL) 0
  | .wr16VWALL v => presented 1 (Reg.offset .vWALL) v.toNat
  | .rd16VAPF1 => presented 0 (Reg.offset .vAPF1) 0
  | .wr16VAPF1 v => presented 1 (Reg.offset .vAPF1) v.toNat
  | .rd16VAPF2 => presented 0 (Reg.offset .vAPF2) 0
  | .wr16VAPF2 v => presented 1 (Reg.offset .vAPF2) v.toNat
  | .rd16MLSAME => presented 0 (Reg.offset .mLSAME) 0
  | .wr16MLSAME v => presented 1 (Reg.offset .mLSAME) v.toNat
  | .rd16MRSAME => presented 0 (Reg.offset .mRSAME) 0
  | .wr16MRSAME v => presented 1 (Reg.offset .mRSAME) v.toNat
  | .rd16MLCOMB1 => presented 0 (Reg.offset .mLCOMB1) 0
  | .wr16MLCOMB1 v => presented 1 (Reg.offset .mLCOMB1) v.toNat
  | .rd16MRCOMB1 => presented 0 (Reg.offset .mRCOMB1) 0
  | .wr16MRCOMB1 v => presented 1 (Reg.offset .mRCOMB1) v.toNat
  | .rd16MLCOMB2 => presented 0 (Reg.offset .mLCOMB2) 0
  | .wr16MLCOMB2 v => presented 1 (Reg.offset .mLCOMB2) v.toNat
  | .rd16MRCOMB2 => presented 0 (Reg.offset .mRCOMB2) 0
  | .wr16MRCOMB2 v => presented 1 (Reg.offset .mRCOMB2) v.toNat
  | .rd16DLSAME => presented 0 (Reg.offset .dLSAME) 0
  | .wr16DLSAME v => presented 1 (Reg.offset .dLSAME) v.toNat
  | .rd16DRSAME => presented 0 (Reg.offset .dRSAME) 0
  | .wr16DRSAME v => presented 1 (Reg.offset .dRSAME) v.toNat
  | .rd16MLDIFF => presented 0 (Reg.offset .mLDIFF) 0
  | .wr16MLDIFF v => presented 1 (Reg.offset .mLDIFF) v.toNat
  | .rd16MRDIFF => presented 0 (Reg.offset .mRDIFF) 0
  | .wr16MRDIFF v => presented 1 (Reg.offset .mRDIFF) v.toNat
  | .rd16MLCOMB3 => presented 0 (Reg.offset .mLCOMB3) 0
  | .wr16MLCOMB3 v => presented 1 (Reg.offset .mLCOMB3) v.toNat
  | .rd16MRCOMB3 => presented 0 (Reg.offset .mRCOMB3) 0
  | .wr16MRCOMB3 v => presented 1 (Reg.offset .mRCOMB3) v.toNat
  | .rd16MLCOMB4 => presented 0 (Reg.offset .mLCOMB4) 0
  | .wr16MLCOMB4 v => presented 1 (Reg.offset .mLCOMB4) v.toNat
  | .rd16MRCOMB4 => presented 0 (Reg.offset .mRCOMB4) 0
  | .wr16MRCOMB4 v => presented 1 (Reg.offset .mRCOMB4) v.toNat
  | .rd16DLDIFF => presented 0 (Reg.offset .dLDIFF) 0
  | .wr16DLDIFF v => presented 1 (Reg.offset .dLDIFF) v.toNat
  | .rd16DRDIFF => presented 0 (Reg.offset .dRDIFF) 0
  | .wr16DRDIFF v => presented 1 (Reg.offset .dRDIFF) v.toNat
  | .rd16MLAPF1 => presented 0 (Reg.offset .mLAPF1) 0
  | .wr16MLAPF1 v => presented 1 (Reg.offset .mLAPF1) v.toNat
  | .rd16MRAPF1 => presented 0 (Reg.offset .mRAPF1) 0
  | .wr16MRAPF1 v => presented 1 (Reg.offset .mRAPF1) v.toNat
  | .rd16MLAPF2 => presented 0 (Reg.offset .mLAPF2) 0
  | .wr16MLAPF2 v => presented 1 (Reg.offset .mLAPF2) v.toNat
  | .rd16MRAPF2 => presented 0 (Reg.offset .mRAPF2) 0
  | .wr16MRAPF2 v => presented 1 (Reg.offset .mRAPF2) v.toNat
  | .rd16VLIN => presented 0 (Reg.offset .vLIN) 0
  | .wr16VLIN v => presented 1 (Reg.offset .vLIN) v.toNat
  | .rd16VRIN => presented 0 (Reg.offset .vRIN) 0
  | .wr16VRIN v => presented 1 (Reg.offset .vRIN) v.toNat
  | .rd16UnrecDA0 => presented 0 0xDA0 0
  | .rd16UnrecDAC => presented 0 0xDAC 0
  | .rd16UnrecDB8 => presented 0 0xDB8 0
  | .rd16UnrecDBA => presented 0 0xDBA 0
  | .rd16UnrecDBC => presented 0 0xDBC 0
  | .rd16UnrecDBE => presented 0 0xDBE 0
  | .rd16UnrecE00 off => presented 0 off.toNat 0
  | .rd16Misaligned off => presented 0 off.toNat 0
  | .wr16UnrecDA0 v => presented 1 0xDA0 v.toNat
  | .wr16UnrecDAC v => presented 1 0xDAC v.toNat
  | .wr16UnrecDB8 v => presented 1 0xDB8 v.toNat
  | .wr16UnrecDBA v => presented 1 0xDBA v.toNat
  | .wr16UnrecDBC v => presented 1 0xDBC v.toNat
  | .wr16UnrecDBE v => presented 1 0xDBE v.toNat
  | .wr16UnrecE00 off v => presented 1 off.toNat v.toNat
  | .wr16Misaligned off v => presented 1 off.toNat v.toNat
  | .rd8 off => presented 0x2 off.toNat 0
  | .wr8 off b => presented 0x3 off.toNat b.toNat
  | .rd32 off => presented 0x4 off.toNat 0
  | .wr32 off w => presented 0x5 off.toNat w.toNat
  | .dmaRd => presented 0x8 0 0
  | .dmaWr w => presented 0x9 0 w.toNat
  | .tick cycles => presented 0xA 0 cycles
  | .cdPush l r => presented 0xB 0 (packPair l r)
  | .reset => presented 0xF 0 0
  | .intKeyOn n => presented 0xE 0x01 n.val
  | .intKeyOff n => presented 0xE 0x02 n.val
  | .intVoiceStep n => presented 0xE 0x03 n.val
  | .intDecodeBlock n => presented 0xE 0x04 n.val
  | .intInterpolate n => presented 0xE 0x05 n.val
  | .intEffectiveStep n => presented 0xE 0x06 n.val
  | .intPitchAdvance n step => presented 0xE 0x07 (n.val + 32 * step.toNat)
  | .intAdsrTick n => presented 0xE 0x08 n.val
  | .intMixStep => presented 0xE 0x10 0
  | .intKeyLatch => presented 0xE 0x11 0
  | .intCaptureWrite cl cr => presented 0xE 0x12 (packPair cl cr)
  | .intFinalMix dryL dryR => presented 0xE 0x13 (packPair dryL dryR)
  | .intOutputAppend outL outR => presented 0xE 0x14 (packPair outL outR)
  | .intReverb inL inR => presented 0xE 0x20 (packPair inL inR)

end Sys2Proof
end

