-- ==== Sys2Proof/Machine/State.lean ====
section
/-! DEFINITION. The state of the SPU-DSP block as plain data (spec/10_state.md R20 to R53), the reasons a step can stop, and
the state after reset (spec/70_reset_and_hazards.md R471). -/

namespace Sys2Proof.Machine

open Sys2Proof

/-- Sound RAM (R21) as the bytes that are not 0x00, addresses strictly rising. Any other byte reads as 0x00, the reset
value that R21 and R471 state. -/
abbrev Memory := List Host.Cell

/-- The five envelope phases (R28). -/
inductive Phase where
  | off | attack | decay | sustain | release
deriving DecidableEq, Repr

/-- One voice record `V[n]` (R22 to R35). -/
structure Voice where
  /-- left volume, a Q15 gain (R22) -/
  volL : Half
  /-- right volume, a Q15 gain (R22) -/
  volR : Half
  /-- as stored; bits 13:0 are the raw pitch step (R23) -/
  pitch : Half
  /-- ADPCM start address divided by 8 (R24) -/
  startAddr : Half
  /-- loop address divided by 8 (R25) -/
  repeatAddr : Half
  /-- attack, decay and sustain-level fields (R26, R119) -/
  adsrLo : Half
  /-- sustain and release fields (R26, R120) -/
  adsrHi : Half
  /-- current envelope level, signed 16, in 0..0x7FFF (R27) -/
  envLevel : Half
  /-- envelope phase (R28) -/
  phase : Phase
  /-- decode cursor: byte address of the loaded block, or of the one to load next (R29) -/
  cur : RamAddr
  /-- pitch counter: sample index in bits 16:12, fraction in bits 11:0 (R30) -/
  pcount : BitVec 17
  /-- the decoded current block (R31) -/
  buf : Vector Half 28
  /-- the last three samples of the block before it (R31) -/
  hist : Vector Half 3
  /-- flags byte of the loaded block (R32) -/
  blkFlags : Byte
  /-- `buf` holds the decode of the block at `cur` (R33) -/
  isLoaded : Bool
  /-- post-envelope dry output (R34) -/
  lastSample : Half
  /-- mix steps the envelope generator still skips, below 2^20 (R35) -/
  adsrWait : Nat
deriving DecidableEq, Repr

/-- The global record `G` (R36 to R50). -/
structure Global where
  /-- ENDX flags (R36) -/
  endx : Mask
  /-- pending key-on edges (R37) -/
  konPend : Mask
  /-- pending key-off edges (R37) -/
  koffPend : Mask
  /-- pitch-modulation enable (R38) -/
  pmon : Mask
  /-- noise enable (R38) -/
  non : Mask
  /-- reverb send (R38) -/
  eon : Mask
  /-- main volume left (R39) -/
  mainVolL : Half
  /-- main volume right (R39) -/
  mainVolR : Half
  /-- CD input volume left (R40) -/
  cdVolL : Half
  /-- CD input volume right (R40) -/
  cdVolR : Half
  /-- external input volume left: stored only (R40) -/
  extVolL : Half
  /-- external input volume right: stored only (R40) -/
  extVolR : Half
  /-- control register (R41, R117) -/
  spucnt : Half
  /-- pending interrupt flag (R42) -/
  irqFlag : Bool
  /-- IRQ address divided by 8 (R44) -/
  irqAddr : Half
  /-- transfer address register as last written (R45) -/
  xferAddr : Half
  /-- transfer cursor (R45) -/
  xferCur : RamAddr
  /-- reverb work-area start divided by 8 (R46) -/
  mBASE : Half
  /-- reverb cursor (R46) -/
  revCur : RamAddr
  /-- half-rate phase of the reverb processor; it runs in the mix steps that find it `false` (R48) -/
  revPhase : Bool
  /-- capture offset (R49) -/
  capOffset : BitVec 10
  /-- running cycle counter of `TICK` (R50) -/
  cycleCount : Nat
deriving DecidableEq, Repr

/-- The reverb register record `RV`: 12 volume-type and 22 address-type registers (R47). -/
structure ReverbRegs where
  /-- volume-type (R230) -/
  vLIN : Half
  /-- volume-type (R231) -/
  vRIN : Half
  /-- volume-type (R202) -/
  vIIR : Half
  /-- volume-type (R207) -/
  vWALL : Half
  /-- volume-type (R203) -/
  vCOMB1 : Half
  /-- volume-type (R204) -/
  vCOMB2 : Half
  /-- volume-type (R205) -/
  vCOMB3 : Half
  /-- volume-type (R206) -/
  vCOMB4 : Half
  /-- volume-type (R208) -/
  vAPF1 : Half
  /-- volume-type (R209) -/
  vAPF2 : Half
  /-- volume-type (R172) -/
  vLOUT : Half
  /-- volume-type (R173) -/
  vROUT : Half
  /-- address-type (R210) -/
  mLSAME : Half
  /-- address-type (R211) -/
  mRSAME : Half
  /-- address-type (R218) -/
  mLDIFF : Half
  /-- address-type (R219) -/
  mRDIFF : Half
  /-- address-type (R216) -/
  dLSAME : Half
  /-- address-type (R217) -/
  dRSAME : Half
  /-- address-type (R224) -/
  dLDIFF : Half
  /-- address-type (R225) -/
  dRDIFF : Half
  /-- address-type (R212) -/
  mLCOMB1 : Half
  /-- address-type (R213) -/
  mRCOMB1 : Half
  /-- address-type (R214) -/
  mLCOMB2 : Half
  /-- address-type (R215) -/
  mRCOMB2 : Half
  /-- address-type (R220) -/
  mLCOMB3 : Half
  /-- address-type (R221) -/
  mRCOMB3 : Half
  /-- address-type (R222) -/
  mLCOMB4 : Half
  /-- address-type (R223) -/
  mRCOMB4 : Half
  /-- address-type (R226) -/
  mLAPF1 : Half
  /-- address-type (R227) -/
  mRAPF1 : Half
  /-- address-type (R228) -/
  mLAPF2 : Half
  /-- address-type (R229) -/
  mRAPF2 : Half
  /-- address-type (R200) -/
  dAPF1 : Half
  /-- address-type (R201) -/
  dAPF2 : Half
deriving DecidableEq, Repr

/-- The register-window transaction kinds that the unimplemented-register condition records (R111, R155). -/
inductive AccessKind where
  | rd16 | wr16 | rd8 | wr8 | rd32 | wr32
deriving DecidableEq, Repr

/-- The three transfer ports (R433). -/
inductive Port where
  | manualWrite | dmaRead | dmaWrite
deriving DecidableEq, Repr

/-- The error conditions E1, E2, E3 with what each records (R432 to R434). They are states of the block, not stops of the
model: R430 says what state they leave. -/
inductive BlockError where
  /-- E1 (R432) -/
  | unimplementedRegister (kind : AccessKind) (off : Offset)
  /-- E2 (R433) -/
  | invalidState (port : Port)
  /-- E3: ADPCM header shift 13 to 15 (R125 #1, R434) -/
  | adpcmShift (n : VoiceId) (block : RamAddr)
  /-- E3: ADPCM header bit 6 (R125 #2, R434) -/
  | adpcmHeaderBit6 (n : VoiceId) (block : RamAddr)
  /-- E3: `ADSR_HI` bit 13 (R125 #3, R434) -/
  | adsrReservedBit (n : VoiceId)
deriving DecidableEq, Repr

/-- What signalled an interrupt (R278, R412, R438). -/
inductive IrqSource where
  | voiceFetch (n : VoiceId)
  | cell (a : RamAddr)
  | dma
deriving DecidableEq, Repr

/-- The output events of the block (R431). -/
inductive Event where
  | irq9 (source : IrqSource)
  | sinkAppend (bytes : List Byte)
  | logUnimplemented (kind : AccessKind) (off : Offset)
deriving DecidableEq, Repr

/-- What the last transaction returned (log 8): the results of R111, those of the micro-operations, nothing, or that it was
refused because `FAULT` was set (R430). -/
inductive Result where
  | none
  | refused
  | byte (v : Byte)
  | half (v : Half)
  | word (v : Word)
  | int (x : Int)
  | pair (l r : Int)
deriving DecidableEq, Repr

/-- The state of the block, R20's tuple `(RAM, V[0..23], G, RV, Q, OUT, FAULT, TRACE)`, and the model's own three fields. -/
structure State where
  /-- Sound RAM (R21) -/
  ram : Memory
  /-- the 24 voices (R22 to R35) -/
  voices : Vector Voice 24
  /-- the global record (R36 to R50) -/
  g : Global
  /-- the reverb registers (R47) -/
  rv : ReverbRegs
  /-- `Q`, the CD input queue, head first (R52) -/
  cdq : List (Half × Half)
  /-- `OUT`, the part of the output stream not yet flushed (R51) -/
  out : List Byte
  /-- `FAULT` (R53, R430) -/
  fault : Option BlockError
  /-- `TRACE`, oldest first (R53, R431) -/
  trace : List Event
  /-- the model's own: what the last transaction returned (log 8) -/
  result : Result
  /-- the model's own: the transactions presented and not yet performed, oldest first (log 1) -/
  pending : List Transaction
  /-- the model's own: how many noise samples have been drawn (log 7) -/
  draws : Nat
deriving DecidableEq, Repr

/-- Why a step stops with a fault: never. The error conditions of R430 are states, Sound RAM has no faulting address (R81)
and no rule gives the block another way to stop, so nothing raises a fault. Safe: there is none to lean on. -/
inductive Fault where
deriving DecidableEq, Repr

/-- Why a step answers with no meaning. -/
inductive Refusal where
  /-- Raised by `exec` for an instruction that has no meaning in the model. Safe: nothing can be concluded of it. -/
  | notModelled (mnemonic : String)
  /-- Raised by `step` for a presented word that is no transaction of R110 to R126 (log 10). Safe: the model stops. -/
  | undecodable (e : DecodeError)
deriving DecidableEq, Repr

/-- A voice after reset (R471). -/
def Voice.reset : Voice where
  volL := 0
  volR := 0
  pitch := 0
  startAddr := 0
  repeatAddr := 0
  adsrLo := 0
  adsrHi := 0
  envLevel := 0
  phase := .off
  cur := 0
  pcount := 0
  buf := Vector.replicate 28 0
  hist := Vector.replicate 3 0
  blkFlags := 0
  isLoaded := false
  lastSample := 0
  adsrWait := 0

/-- The global record after reset (R471): disabled, muted, IRQ9 off, transfer mode 0. -/
def Global.reset : Global where
  endx := 0
  konPend := 0
  koffPend := 0
  pmon := 0
  non := 0
  eon := 0
  mainVolL := 0
  mainVolR := 0
  cdVolL := 0
  cdVolR := 0
  extVolL := 0
  extVolR := 0
  spucnt := 0
  irqFlag := false
  irqAddr := 0
  xferAddr := 0
  xferCur := 0
  mBASE := 0
  revCur := 0
  revPhase := false
  capOffset := 0
  cycleCount := 0

/-- The reverb registers after reset (R471). -/
def ReverbRegs.reset : ReverbRegs where
  vLIN := 0
  vRIN := 0
  vIIR := 0
  vWALL := 0
  vCOMB1 := 0
  vCOMB2 := 0
  vCOMB3 := 0
  vCOMB4 := 0
  vAPF1 := 0
  vAPF2 := 0
  vLOUT := 0
  vROUT := 0
  mLSAME := 0
  mRSAME := 0
  mLDIFF := 0
  mRDIFF := 0
  dLSAME := 0
  dRSAME := 0
  dLDIFF := 0
  dRDIFF := 0
  mLCOMB1 := 0
  mRCOMB1 := 0
  mLCOMB2 := 0
  mRCOMB2 := 0
  mLCOMB3 := 0
  mRCOMB3 := 0
  mLCOMB4 := 0
  mRCOMB4 := 0
  mLAPF1 := 0
  mRAPF1 := 0
  mLAPF2 := 0
  mRAPF2 := 0
  dAPF1 := 0
  dAPF2 := 0

/-- The machine right after reset (R471): every piece of state zero, empty or Off, and nothing presented. -/
def State.reset : State where
  ram := []
  voices := Vector.replicate 24 Voice.reset
  g := Global.reset
  rv := ReverbRegs.reset
  cdq := []
  out := []
  fault := Option.none
  trace := []
  result := .none
  pending := []
  draws := 0

end Sys2Proof.Machine
end

