-- ==== Sys2Proof/Machine/Operands.lean ====
section
/-! DEFINITION. The operand forms and the arithmetic of spec/00_scope.md R9, R10 and spec/30_encoding.md R116: values are
exact integers, and only `sat16`, `u16`, a slice or a `mod` reduces one (R15). -/

namespace Sys2Proof.Machine

open Sys2Proof

/-! ### Integers and 16-bit encodings (R10) -/

/-- `s16(v)`: the signed value of a 16-bit vector (R10). -/
def s16 (v : Half) : Int := v.toInt

/-- `u16(x)`: the two's-complement encoding of an integer (R10). -/
def u16 (x : Int) : Half := BitVec.ofInt 16 x

/-- `sat16(x)`: clamped to signed 16 bits (R10). -/
def sat16 (x : Int) : Int :=
  if x < -0x8000 then -0x8000 else if 0x7FFF < x then 0x7FFF else x

/-- `a >>a k`: the arithmetic shift right, `floor(a / 2^k)` (R10). -/
def sar (a : Int) (k : Nat) : Int := a / (2 : Int) ^ k

/-- `mulq15(a, b)`: the exact product, then the floor (R10). -/
def mulq15 (a b : Int) : Int := sar (a * b) 15

/-- `sext_4`: the signed value of a nibble (R124). -/
def sext4 (nib : BitVec 4) : Int := nib.toInt

/-! ### Register contents as operands (R116) -/

/-- An address-type register as a byte address or byte offset: `zext_16(a) * 8`, 0..0x7FFF8. -/
def byteAddr (a : Half) : Nat := a.toNat * 8

/-- The same as a 19-bit Sound-RAM address, of which it fills the range (R24, R44 to R46). -/
def cursorOf (a : Half) : RamAddr := BitVec.ofNat 19 (byteAddr a)

/-- The address-type register value of a block address: `B >>a 3`, nothing lost for a multiple of 8 (R277). -/
def repeatOf (block : RamAddr) : Half := block.extractLsb' 3 16

/-- The raw pitch step, `PITCH[13:0]` (R284). -/
def rawStep (pitch : Half) : Nat := (pitch.extractLsb' 0 14).toNat

/-- The level a host write stores: `ENV[14:0]`, bit 15 dropped (R166). -/
def envWritten (v : Half) : Half := (v.extractLsb' 0 15).setWidth 16

/-! ### 24-bit masks from two halves (R116) -/

/-- Bits 15:0 of a mask. -/
def maskLo (m : Mask) : Half := m.extractLsb' 0 16

/-- Bits 23:16 of a mask, zero-extended. -/
def maskHi (m : Mask) : Half := (m.extractLsb' 16 8).setWidth 16

/-- Replace bits 15:0 of a mask. -/
def setMaskLo (m : Mask) (v : Half) : Mask := m.extractLsb' 16 8 ++ v

/-- Replace bits 23:16 of a mask by `v[7:0]`; `v[15:8]` is ignored. -/
def setMaskHi (m : Mask) (v : Half) : Mask := v.extractLsb' 0 8 ++ m.extractLsb' 0 16

/-- Bit `n` of a mask. -/
def maskBit (m : Mask) (n : VoiceId) : Bool := m.getLsbD n.val

/-- The mask with bit `n` alone set. -/
def oneHot (n : VoiceId) : Mask := BitVec.ofNat 24 (2 ^ n.val)

/-- Set bit `n` of a mask. -/
def setMaskBit (m : Mask) (n : VoiceId) : Mask := m ||| oneHot n

/-- Clear bit `n` of a mask. -/
def clearMaskBit (m : Mask) (n : VoiceId) : Mask := m &&& ~~~ (oneHot n)

/-! ### Halves of words and bytes of halves (R84, R116, R132) -/

/-- `w[15:0]`. -/
def wordLo (w : Word) : Half := w.extractLsb' 0 16

/-- `w[31:16]`. -/
def wordHi (w : Word) : Half := w.extractLsb' 16 16

/-- `{hi, lo}`. -/
def mkWord (hi lo : Half) : Word := hi ++ lo

/-- `v[7:0]`. -/
def loByte (v : Half) : Byte := v.extractLsb' 0 8

/-- `v[15:8]`. -/
def hiByte (v : Half) : Byte := v.extractLsb' 8 8

/-- `{hi, lo}` of two bytes. -/
def mkHalf (hi lo : Byte) : Half := hi ++ lo

/-- The byte of a 16-bit register that an offset selects: bits 15:8 at an odd one, 7:0 at an even one (R84, R151). -/
def byteAt (off : Offset) (w : Half) : Byte := if off.toNat % 2 = 1 then hiByte w else loByte w

end Sys2Proof.Machine
end

