-- ==== Sys2Proof/Machine/Flags.lean ====
section
/-! DEFINITION. The control and status fields (spec/10_state.md R41 to R43, spec/30_encoding.md R117, R118), derived at every
use and not held as separate state, and the envelope fields of R119 and R120. The block has no condition codes (R55). -/

namespace Sys2Proof.Machine

open Sys2Proof

/-! ### `SPUCNT` (R41, R117) -/

/-- `SPUCNT` bit 15: mix steps run. -/
def masterEnable (spucnt : Half) : Bool := spucnt.getLsbD 15

/-- Mute: the stored bit 14 is "unmute" (R41, R350). -/
def muted (spucnt : Half) : Bool := !spucnt.getLsbD 14

/-- `SPUCNT` bit 7: reverb writes reach Sound RAM (R383). -/
def revWriteEn (spucnt : Half) : Bool := spucnt.getLsbD 7

/-- `SPUCNT` bit 6: IRQ9 enable (R436). -/
def irq9En (spucnt : Half) : Bool := spucnt.getLsbD 6

/-- `SPUCNT` bits 5:4: the transfer mode. -/
def xferMode (spucnt : Half) : BitVec 2 := spucnt.extractLsb' 4 2

/-- `SPUCNT` bit 2: CD reverb send (R345). -/
def cdRevEn (spucnt : Half) : Bool := spucnt.getLsbD 2

/-- `SPUCNT` bit 0: CD audio (R345). -/
def cdAudioEn (spucnt : Half) : Bool := spucnt.getLsbD 0

/-- The transfer mode is 2, the one value with which the three ports work (R189, R413). -/
def xferModeOk (spucnt : Half) : Bool := xferMode spucnt == 2#2

/-! ### `SPUSTAT` (R43, R118) -/

/-- The status register: `{0[15:7], irqFlag, spucnt[5:0]}`. -/
def spustat (irqFlag : Bool) (spucnt : Half) : Half :=
  (BitVec.ofBool irqFlag ++ spucnt.extractLsb' 0 6).setWidth 16

/-! ### Envelope fields (R119, R120) -/

/-- `ADSR_LO[15]`: pseudo-exponential attack. -/
def attackExp (lo : Half) : Bool := lo.getLsbD 15

/-- `ADSR_LO[14:10]`. -/
def attackShift (lo : Half) : Nat := (lo.extractLsb' 10 5).toNat

/-- `ADSR_LO[9:8]`. -/
def attackStep (lo : Half) : Nat := (lo.extractLsb' 8 2).toNat

/-- `ADSR_LO[7:4]`. -/
def decayShift (lo : Half) : Nat := (lo.extractLsb' 4 4).toNat

/-- `ADSR_LO[3:0]`. -/
def sustainLevel (lo : Half) : Nat := (lo.extractLsb' 0 4).toNat

/-- `ADSR_HI[15]`: exponential sustain. -/
def sustainExp (hi : Half) : Bool := hi.getLsbD 15

/-- `ADSR_HI[14]`: decreasing sustain. -/
def sustainDec (hi : Half) : Bool := hi.getLsbD 14

/-- `ADSR_HI[13]`: reserved, must be written 0 (R125 #3). -/
def adsrReserved (hi : Half) : Bool := hi.getLsbD 13

/-- `ADSR_HI[12:8]`. -/
def sustainShift (hi : Half) : Nat := (hi.extractLsb' 8 5).toNat

/-- `ADSR_HI[7:6]`. -/
def sustainStep (hi : Half) : Nat := (hi.extractLsb' 6 2).toNat

/-- `ADSR_HI[4:0]`; bit 5 is stored and ignored. -/
def releaseShift (hi : Half) : Nat := (hi.extractLsb' 0 5).toNat

/-! ### ADPCM block header and flags (R122, R123) -/

/-- Header bits 3:0. -/
def hdrShift (hdr : Byte) : Nat := (hdr.extractLsb' 0 4).toNat

/-- Header bits 5:4. -/
def hdrFilter (hdr : Byte) : BitVec 2 := hdr.extractLsb' 4 2

/-- Header bit 6: reserved, must be 0 (R125 #2). -/
def hdrReserved (hdr : Byte) : Bool := hdr.getLsbD 6

/-- Flags bit 0. -/
def loopEndFlag (flg : Byte) : Bool := flg.getLsbD 0

/-- Flags bit 1. -/
def loopRepeatFlag (flg : Byte) : Bool := flg.getLsbD 1

/-- Flags bit 2. -/
def loopStartFlag (flg : Byte) : Bool := flg.getLsbD 2

end Sys2Proof.Machine
end

