-- ==== Sys2Proof/Machine/Ops.lean ====
section
/-! DEFINITION. The named operations the meanings share: Sound RAM (spec/20_memory.md R80 to R88), voices, events, raising an
error (spec/60_exceptions.md R430 to R434), the interrupt output and its acknowledge (R435 to R441), the
unimplemented-register condition (spec/40_register_file.md R155), and the frame of every transaction. -/

namespace Sys2Proof.Machine

open Sys2Proof

/-! ### Sound RAM -/

/-- The byte at an address of the list; an unlisted one reads 0x00 (R21). -/
def Memory.read : Memory → Nat → Byte
  | [], _ => 0
  | (k, b) :: rest, a => if k = a then b else Memory.read rest a

/-- The list with the byte at `a` set; a byte of 0x00 is not listed. -/
def Memory.write : Memory → Nat → Byte → Memory
  | [], a, v => if v = 0 then [] else [(a, v)]
  | (k, b) :: rest, a, v =>
    if a < k then (if v = 0 then (k, b) :: rest else (a, v) :: (k, b) :: rest)
    else if a = k then (if v = 0 then rest else (a, v) :: rest)
    else (k, b) :: Memory.write rest a v

/-- Addresses strictly rising, all inside Sound RAM and above `low`, and no byte listed that is 0x00. -/
def Memory.wfFrom (low : Nat) : Memory → Bool
  | [] => true
  | (k, b) :: rest => decide (low ≤ k) && decide (k < 0x80000) && decide (b ≠ 0) && Memory.wfFrom (k + 1) rest

/-- The one canonical form of a memory, so that equal memories are equal lists. -/
def Memory.wf (m : Memory) : Bool := Memory.wfFrom 0 m

/-- `MemRead(a, 1)` (R82). -/
def memRead1 (s : State) (a : Nat) : Byte := Memory.read s.ram (a % 0x80000)

/-- `MemRead(a, 2)`: the byte at the lower address is the low byte (R82). -/
def memRead2 (s : State) (a : Nat) : Half := mkHalf (memRead1 s (a + 1)) (memRead1 s a)

/-- `MemWrite(a, 1, v)` (R83). -/
def memWrite1 (a : Nat) (v : Byte) (s : State) : State :=
  { s with ram := Memory.write s.ram (a % 0x80000) v }

/-- `MemWrite(a, 2, v)`: `v[7:0]` at `a`, then `v[15:8]` at `a + 1` (R83). -/
def memWrite2 (a : Nat) (v : Half) (s : State) : State :=
  memWrite1 (a + 1) (hiByte v) (memWrite1 a (loByte v) s)

/-! ### Voices, global record, events, result -/

/-- `V[n]` (R11). -/
def State.voice (s : State) (n : VoiceId) : Voice := s.voices[n]

/-- `V[n] <- v` (R11). -/
def State.setVoice (s : State) (n : VoiceId) (v : Voice) : State :=
  { s with voices := s.voices.set n.val v }

/-- The voices in the order in which every rule runs over them: 0, 1, ..., 23 (R292). -/
def allVoices : List VoiceId := List.finRange 24

/-- `emit Ev` (R11, R431). -/
def emit (e : Event) (s : State) : State := { s with trace := s.trace ++ [e] }

/-- What the transaction returns to the agent that presented it (R111). -/
def returning (r : Result) (s : State) : State := { s with result := r }

/-- `G.endx[n] <- 1` (R288). -/
def setEndx (n : VoiceId) (s : State) : State :=
  { s with g := { s.g with endx := setMaskBit s.g.endx n } }

/-- `G.endx[n] <- 0` (R271). -/
def clearEndx (n : VoiceId) (s : State) : State :=
  { s with g := { s.g with endx := clearMaskBit s.g.endx n } }

/-! ### Errors (R430) -/

/-- The codes of the error conditions (R432, R433, R434). -/
def BlockError.code : BlockError → Nat
  | .unimplementedRegister _ _ => 1
  | .invalidState _ => 2
  | .adpcmShift _ _ => 3
  | .adpcmHeaderBit6 _ _ => 3
  | .adsrReservedBit _ => 3

/-- `raise E(info)` (R430): `FAULT` records the error, and the transaction ends with the state as it is at this line: nothing
is rolled back, nothing is vectored, no mode changes. A rule that may raise looks at `faulted` before its next line. -/
def raise (e : BlockError) (s : State) : State := { s with fault := some e }

/-- `FAULT != none` (R430). -/
def faulted (s : State) : Bool := s.fault.isSome

/-- The frame of every transaction but `RESET`: in a faulted state it is refused, "changes nothing and returns nothing"
(R430, log 4); else it runs, and returns nothing unless it says so. -/
def transact (f : State → State) (s : State) : State :=
  if faulted s then returning .refused s else f (returning .none s)

/-! ### The interrupt output (R435 to R441) -/

/-- `SignalIrq(source)` (R436): the one place the interrupt is raised. "Trap entry" of this block is the emission of `Irq9`
and the flag; nothing else is saved or changed (R440). -/
def signalIrq (source : IrqSource) (s : State) : State :=
  if irq9En s.g.spucnt && !s.g.irqFlag then
    emit (.irq9 source) { s with g := { s.g with irqFlag := true } }
  else s

/-- The acknowledge (R437, R441 "Trap return"): a control register whose bit 6 is 0 leaves the pending flag clear. -/
def acknowledgeIrq (s : State) : State :=
  if irq9En s.g.spucnt then s else { s with g := { s.g with irqFlag := false } }

/-- The IRQ byte address, `zext_16(G.irqAddr) * 8` (R44, R435). -/
def irqByte (s : State) : RamAddr := cursorOf s.g.irqAddr

/-- `CellIrqCheck(a)` (R438): the access is at the IRQ address or at the cell before it. -/
def cellIrqCheck (a : RamAddr) (s : State) : State :=
  if a = irqByte s ∨ a = irqByte s - 2 then signalIrq (.cell a) s else s

/-- `VoiceIrqCheck(n, B)` (R278): the IRQ address lies in the 16 bytes of the block. -/
def voiceIrqCheck (n : VoiceId) (block : RamAddr) (s : State) : State :=
  if (irqByte s - block).toNat < 16 then signalIrq (.voiceFetch n) s else s

/-- `DmaIrqCheck()` (R412): the IRQ address is one of the four bytes at the transfer cursor. -/
def dmaIrqCheck (s : State) : State :=
  if (irqByte s - s.g.xferCur).toNat < 4 then signalIrq .dma s else s

/-! ### The unimplemented-register condition (R155) -/

/-- `Unimplemented(kind, off)`: a hard failure in strict mode; else it is logged, and a read returns `zero`, a write nothing. -/
def unimplemented (p : Params) (kind : AccessKind) (off : Offset) (zero : Result) (s : State) : State :=
  if p.strict then raise (.unimplementedRegister kind off) s
  else returning zero (emit (.logUnimplemented kind off) s)

end Sys2Proof.Machine
end

