-- ==== Sys2Proof/Machine/Registers.lean ====
section
/-! DEFINITION. What each register of the window returns and what a half-word write of it does (spec/40_register_file.md
R160 to R231), once for the 16-bit accesses and the 8- and 32-bit ones composed from them (R150 to R154). -/

namespace Sys2Proof.Machine

open Sys2Proof

/-! ### Reads -/

/-- What `RD16` of a voice register returns (R160 to R167). -/
def readVoiceReg (v : Voice) : VoiceReg → Half
  | .volL => v.volL
  | .volR => v.volR
  | .pitch => v.pitch
  | .start => v.startAddr
  | .adsrLo => v.adsrLo
  | .adsrHi => v.adsrHi
  | .env => v.envLevel
  | .repeatAddr => v.repeatAddr

/-- What `RD16` of a register returns (R160 to R231); none for the write-only port, whose read is unrecognised (R126, R189).
No read changes the state (R87, R150). -/
def readReg (s : State) : Reg → Option Half
  | .voice r n => some (readVoiceReg (s.voice n) r)
  | .mvolL => some s.g.mainVolL
  | .mvolR => some s.g.mainVolR
  | .vLOUT => some s.rv.vLOUT
  | .vROUT => some s.rv.vROUT
  | .konLo => some (maskLo s.g.konPend)
  | .konHi => some (maskHi s.g.konPend)
  | .koffLo => some (maskLo s.g.koffPend)
  | .koffHi => some (maskHi s.g.koffPend)
  | .pmonLo => some (maskLo s.g.pmon)
  | .pmonHi => some (maskHi s.g.pmon)
  | .nonLo => some (maskLo s.g.non)
  | .nonHi => some (maskHi s.g.non)
  | .eonLo => some (maskLo s.g.eon)
  | .eonHi => some (maskHi s.g.eon)
  | .endxLo => some (maskLo s.g.endx)
  | .endxHi => some (maskHi s.g.endx)
  | .mbase => some s.g.mBASE
  | .irqAddr => some s.g.irqAddr
  | .xferAddr => some s.g.xferAddr
  | .xferPort => none
  | .spucnt => some s.g.spucnt
  | .spustat => some (spustat s.g.irqFlag s.g.spucnt)
  | .cdvolL => some s.g.cdVolL
  | .cdvolR => some s.g.cdVolR
  | .extvolL => some s.g.extVolL
  | .extvolR => some s.g.extVolR
  | .dAPF1 => some s.rv.dAPF1
  | .dAPF2 => some s.rv.dAPF2
  | .vIIR => some s.rv.vIIR
  | .vCOMB1 => some s.rv.vCOMB1
  | .vCOMB2 => some s.rv.vCOMB2
  | .vCOMB3 => some s.rv.vCOMB3
  | .vCOMB4 => some s.rv.vCOMB4
  | .vWALL => some s.rv.vWALL
  | .vAPF1 => some s.rv.vAPF1
  | .vAPF2 => some s.rv.vAPF2
  | .mLSAME => some s.rv.mLSAME
  | .mRSAME => some s.rv.mRSAME
  | .mLCOMB1 => some s.rv.mLCOMB1
  | .mRCOMB1 => some s.rv.mRCOMB1
  | .mLCOMB2 => some s.rv.mLCOMB2
  | .mRCOMB2 => some s.rv.mRCOMB2
  | .dLSAME => some s.rv.dLSAME
  | .dRSAME => some s.rv.dRSAME
  | .mLDIFF => some s.rv.mLDIFF
  | .mRDIFF => some s.rv.mRDIFF
  | .mLCOMB3 => some s.rv.mLCOMB3
  | .mRCOMB3 => some s.rv.mRCOMB3
  | .mLCOMB4 => some s.rv.mLCOMB4
  | .mRCOMB4 => some s.rv.mRCOMB4
  | .dLDIFF => some s.rv.dLDIFF
  | .dRDIFF => some s.rv.dRDIFF
  | .mLAPF1 => some s.rv.mLAPF1
  | .mRAPF1 => some s.rv.mRAPF1
  | .mLAPF2 => some s.rv.mLAPF2
  | .mRAPF2 => some s.rv.mRAPF2
  | .vLIN => some s.rv.vLIN
  | .vRIN => some s.rv.vRIN

/-- The value of the register at an offset that `RD16` recognises (R112, R126). -/
def readAt (s : State) (off : Offset) : Option Half :=
  match regAt off with
  | some r => readReg s r
  | none => none

/-- `RD16` of the register `r` (R150). -/
def readHalf (p : Params) (r : Reg) (s : State) : State :=
  match readReg s r with
  | some w => returning (.half w) s
  | none => unimplemented p .rd16 (BitVec.ofNat 12 r.offset) (.half 0) s

/-! ### Writes -/

/-- What clearing the master enable does to one voice (R190): Off, and level, last sample and wait counter zeroed. -/
def silenceVoice (s : State) (n : VoiceId) : State :=
  s.setVoice n { s.voice n with phase := .off, envLevel := 0, lastSample := 0, adsrWait := 0 }

/-- The control register (R190): stored; a write that leaves bit 15 clear forces every voice Off, one that leaves bit 6
clear clears the pending interrupt flag. -/
def writeSpucnt (v : Half) (s : State) : State :=
  let s1 := { s with g := { s.g with spucnt := v } }
  let s2 := if masterEnable v then s1 else allVoices.foldl silenceVoice s1
  acknowledgeIrq s2

/-- The manual-write port (R189): one little-endian cell at the transfer cursor, the cell interrupt check, then the cursor
advances by 2 modulo 0x80000; E2 unless the transfer mode is 2. -/
def writePort (v : Half) (s : State) : State :=
  if xferModeOk s.g.spucnt then
    let a := s.g.xferCur
    let s1 := cellIrqCheck a (memWrite2 a.toNat v s)
    { s1 with g := { s1.g with xferCur := a + 2 } }
  else raise (.invalidState .manualWrite) s

/-- What `WR16` of a voice register does (R160 to R167); `ADSR_HI` with bit 13 set is a reserved configuration encoding and
nothing is written (R165). -/
def writeVoiceReg (n : VoiceId) (v : Half) (s : State) : VoiceReg → State
  | .volL => s.setVoice n { s.voice n with volL := v }
  | .volR => s.setVoice n { s.voice n with volR := v }
  | .pitch => s.setVoice n { s.voice n with pitch := v }
  | .start => s.setVoice n { s.voice n with startAddr := v }
  | .adsrLo => s.setVoice n { s.voice n with adsrLo := v }
  | .adsrHi =>
    if adsrReserved v then raise (.adsrReservedBit n) s
    else s.setVoice n { s.voice n with adsrHi := v }
  | .env => s.setVoice n { s.voice n with envLevel := envWritten v }
  | .repeatAddr => s.setVoice n { s.voice n with repeatAddr := v }

/-- What `WR16` of a register does (R160 to R231). `KON` and `KOFF` accumulate (R174 to R177); the read-only `ENDX` and
`SPUSTAT` ignore the write (R184, R185, R191). -/
def writeReg (v : Half) (s : State) : Reg → State
  | .voice r n => writeVoiceReg n v s r
  | .mvolL => { s with g := { s.g with mainVolL := v } }
  | .mvolR => { s with g := { s.g with mainVolR := v } }
  | .vLOUT => { s with rv := { s.rv with vLOUT := v } }
  | .vROUT => { s with rv := { s.rv with vROUT := v } }
  | .konLo => { s with g := { s.g with konPend := setMaskLo s.g.konPend (maskLo s.g.konPend ||| v) } }
  | .konHi => { s with g := { s.g with konPend := setMaskHi s.g.konPend (maskHi s.g.konPend ||| v) } }
  | .koffLo => { s with g := { s.g with koffPend := setMaskLo s.g.koffPend (maskLo s.g.koffPend ||| v) } }
  | .koffHi => { s with g := { s.g with koffPend := setMaskHi s.g.koffPend (maskHi s.g.koffPend ||| v) } }
  | .pmonLo => { s with g := { s.g with pmon := setMaskLo s.g.pmon v } }
  | .pmonHi => { s with g := { s.g with pmon := setMaskHi s.g.pmon v } }
  | .nonLo => { s with g := { s.g with non := setMaskLo s.g.non v } }
  | .nonHi => { s with g := { s.g with non := setMaskHi s.g.non v } }
  | .eonLo => { s with g := { s.g with eon := setMaskLo s.g.eon v } }
  | .eonHi => { s with g := { s.g with eon := setMaskHi s.g.eon v } }
  | .endxLo => s
  | .endxHi => s
  | .mbase => { s with g := { s.g with mBASE := v, revCur := cursorOf v } }
  | .irqAddr => { s with g := { s.g with irqAddr := v } }
  | .xferAddr => { s with g := { s.g with xferAddr := v, xferCur := cursorOf v } }
  | .xferPort => writePort v s
  | .spucnt => writeSpucnt v s
  | .spustat => s
  | .cdvolL => { s with g := { s.g with cdVolL := v } }
  | .cdvolR => { s with g := { s.g with cdVolR := v } }
  | .extvolL => { s with g := { s.g with extVolL := v } }
  | .extvolR => { s with g := { s.g with extVolR := v } }
  | .dAPF1 => { s with rv := { s.rv with dAPF1 := v } }
  | .dAPF2 => { s with rv := { s.rv with dAPF2 := v } }
  | .vIIR => { s with rv := { s.rv with vIIR := v } }
  | .vCOMB1 => { s with rv := { s.rv with vCOMB1 := v } }
  | .vCOMB2 => { s with rv := { s.rv with vCOMB2 := v } }
  | .vCOMB3 => { s with rv := { s.rv with vCOMB3 := v } }
  | .vCOMB4 => { s with rv := { s.rv with vCOMB4 := v } }
  | .vWALL => { s with rv := { s.rv with vWALL := v } }
  | .vAPF1 => { s with rv := { s.rv with vAPF1 := v } }
  | .vAPF2 => { s with rv := { s.rv with vAPF2 := v } }
  | .mLSAME => { s with rv := { s.rv with mLSAME := v } }
  | .mRSAME => { s with rv := { s.rv with mRSAME := v } }
  | .mLCOMB1 => { s with rv := { s.rv with mLCOMB1 := v } }
  | .mRCOMB1 => { s with rv := { s.rv with mRCOMB1 := v } }
  | .mLCOMB2 => { s with rv := { s.rv with mLCOMB2 := v } }
  | .mRCOMB2 => { s with rv := { s.rv with mRCOMB2 := v } }
  | .dLSAME => { s with rv := { s.rv with dLSAME := v } }
  | .dRSAME => { s with rv := { s.rv with dRSAME := v } }
  | .mLDIFF => { s with rv := { s.rv with mLDIFF := v } }
  | .mRDIFF => { s with rv := { s.rv with mRDIFF := v } }
  | .mLCOMB3 => { s with rv := { s.rv with mLCOMB3 := v } }
  | .mRCOMB3 => { s with rv := { s.rv with mRCOMB3 := v } }
  | .mLCOMB4 => { s with rv := { s.rv with mLCOMB4 := v } }
  | .mRCOMB4 => { s with rv := { s.rv with mRCOMB4 := v } }
  | .dLDIFF => { s with rv := { s.rv with dLDIFF := v } }
  | .dRDIFF => { s with rv := { s.rv with dRDIFF := v } }
  | .mLAPF1 => { s with rv := { s.rv with mLAPF1 := v } }
  | .mRAPF1 => { s with rv := { s.rv with mRAPF1 := v } }
  | .mLAPF2 => { s with rv := { s.rv with mLAPF2 := v } }
  | .mRAPF2 => { s with rv := { s.rv with mRAPF2 := v } }
  | .vLIN => { s with rv := { s.rv with vLIN := v } }
  | .vRIN => { s with rv := { s.rv with vRIN := v } }

end Sys2Proof.Machine
end

