-- ==== Sys2Proof/Machine/GlobalRegs.lean ====
section
/-! DEFINITION. The half-word reads and writes of the global registers (spec/40_register_file.md R170 to R195). -/

namespace Sys2Proof.Machine

open Sys2Proof

/-- `RD16 MVOL_L` (R170). -/
def execRd16MvolL (s : State) : Host.Outcome State Fault Refusal :=
  .next (transact (readHalf Config.params .mvolL) s)

/-- `WR16 MVOL_L, v` (R170). -/
def execWr16MvolL (v : Half) (s : State) : Host.Outcome State Fault Refusal :=
  .next (transact (fun s => writeReg v s .mvolL) s)

/-- `RD16 MVOL_R` (R171). -/
def execRd16MvolR (s : State) : Host.Outcome State Fault Refusal :=
  .next (transact (readHalf Config.params .mvolR) s)

/-- `WR16 MVOL_R, v` (R171). -/
def execWr16MvolR (v : Half) (s : State) : Host.Outcome State Fault Refusal :=
  .next (transact (fun s => writeReg v s .mvolR) s)

/-- `RD16 vLOUT` (R172). -/
def execRd16VLOUT (s : State) : Host.Outcome State Fault Refusal :=
  .next (transact (readHalf Config.params .vLOUT) s)

/-- `WR16 vLOUT, v` (R172). -/
def execWr16VLOUT (v : Half) (s : State) : Host.Outcome State Fault Refusal :=
  .next (transact (fun s => writeReg v s .vLOUT) s)

/-- `RD16 vROUT` (R173). -/
def execRd16VROUT (s : State) : Host.Outcome State Fault Refusal :=
  .next (transact (readHalf Config.params .vROUT) s)

/-- `WR16 vROUT, v` (R173). -/
def execWr16VROUT (v : Half) (s : State) : Host.Outcome State Fault Refusal :=
  .next (transact (fun s => writeReg v s .vROUT) s)

/-- `RD16 KON_LO` (R174). -/
def execRd16KonLo (s : State) : Host.Outcome State Fault Refusal :=
  .next (transact (readHalf Config.params .konLo) s)

/-- `WR16 KON_LO, v` (R174). -/
def execWr16KonLo (v : Half) (s : State) : Host.Outcome State Fault Refusal :=
  .next (transact (fun s => writeReg v s .konLo) s)

/-- `RD16 KON_HI` (R175). -/
def execRd16KonHi (s : State) : Host.Outcome State Fault Refusal :=
  .next (transact (readHalf Config.params .konHi) s)

/-- `WR16 KON_HI, v` (R175). -/
def execWr16KonHi (v : Half) (s : State) : Host.Outcome State Fault Refusal :=
  .next (transact (fun s => writeReg v s .konHi) s)

/-- `RD16 KOFF_LO` (R176). -/
def execRd16KoffLo (s : State) : Host.Outcome State Fault Refusal :=
  .next (transact (readHalf Config.params .koffLo) s)

/-- `WR16 KOFF_LO, v` (R176). -/
def execWr16KoffLo (v : Half) (s : State) : Host.Outcome State Fault Refusal :=
  .next (transact (fun s => writeReg v s .koffLo) s)

/-- `RD16 KOFF_HI` (R177). -/
def execRd16KoffHi (s : State) : Host.Outcome State Fault Refusal :=
  .next (transact (readHalf Config.params .koffHi) s)

/-- `WR16 KOFF_HI, v` (R177). -/
def execWr16KoffHi (v : Half) (s : State) : Host.Outcome State Fault Refusal :=
  .next (transact (fun s => writeReg v s .koffHi) s)

/-- `RD16 PMON_LO` (R178). -/
def execRd16PmonLo (s : State) : Host.Outcome State Fault Refusal :=
  .next (transact (readHalf Config.params .pmonLo) s)

/-- `WR16 PMON_LO, v` (R178). -/
def execWr16PmonLo (v : Half) (s : State) : Host.Outcome State Fault Refusal :=
  .next (transact (fun s => writeReg v s .pmonLo) s)

/-- `RD16 PMON_HI` (R179). -/
def execRd16PmonHi (s : State) : Host.Outcome State Fault Refusal :=
  .next (transact (readHalf Config.params .pmonHi) s)

/-- `WR16 PMON_HI, v` (R179). -/
def execWr16PmonHi (v : Half) (s : State) : Host.Outcome State Fault Refusal :=
  .next (transact (fun s => writeReg v s .pmonHi) s)

/-- `RD16 NON_LO` (R180). -/
def execRd16NonLo (s : State) : Host.Outcome State Fault Refusal :=
  .next (transact (readHalf Config.params .nonLo) s)

/-- `WR16 NON_LO, v` (R180). -/
def execWr16NonLo (v : Half) (s : State) : Host.Outcome State Fault Refusal :=
  .next (transact (fun s => writeReg v s .nonLo) s)

/-- `RD16 NON_HI` (R181). -/
def execRd16NonHi (s : State) : Host.Outcome State Fault Refusal :=
  .next (transact (readHalf Config.params .nonHi) s)

/-- `WR16 NON_HI, v` (R181). -/
def execWr16NonHi (v : Half) (s : State) : Host.Outcome State Fault Refusal :=
  .next (transact (fun s => writeReg v s .nonHi) s)

/-- `RD16 EON_LO` (R182). -/
def execRd16EonLo (s : State) : Host.Outcome State Fault Refusal :=
  .next (transact (readHalf Config.params .eonLo) s)

/-- `WR16 EON_LO, v` (R182). -/
def execWr16EonLo (v : Half) (s : State) : Host.Outcome State Fault Refusal :=
  .next (transact (fun s => writeReg v s .eonLo) s)

/-- `RD16 EON_HI` (R183). -/
def execRd16EonHi (s : State) : Host.Outcome State Fault Refusal :=
  .next (transact (readHalf Config.params .eonHi) s)

/-- `WR16 EON_HI, v` (R183). -/
def execWr16EonHi (v : Half) (s : State) : Host.Outcome State Fault Refusal :=
  .next (transact (fun s => writeReg v s .eonHi) s)

/-- `RD16 ENDX_LO` (R184). -/
def execRd16EndxLo (s : State) : Host.Outcome State Fault Refusal :=
  .next (transact (readHalf Config.params .endxLo) s)

/-- `WR16 ENDX_LO, v` (R184). -/
def execWr16EndxLo (v : Half) (s : State) : Host.Outcome State Fault Refusal :=
  .next (transact (fun s => writeReg v s .endxLo) s)

/-- `RD16 ENDX_HI` (R185). -/
def execRd16EndxHi (s : State) : Host.Outcome State Fault Refusal :=
  .next (transact (readHalf Config.params .endxHi) s)

/-- `WR16 ENDX_HI, v` (R185). -/
def execWr16EndxHi (v : Half) (s : State) : Host.Outcome State Fault Refusal :=
  .next (transact (fun s => writeReg v s .endxHi) s)

/-- `RD16 MBASE` (R186). -/
def execRd16Mbase (s : State) : Host.Outcome State Fault Refusal :=
  .next (transact (readHalf Config.params .mbase) s)

/-- `WR16 MBASE, v` (R186). -/
def execWr16Mbase (v : Half) (s : State) : Host.Outcome State Fault Refusal :=
  .next (transact (fun s => writeReg v s .mbase) s)

/-- `RD16 IRQ_ADDR` (R187). -/
def execRd16IrqAddr (s : State) : Host.Outcome State Fault Refusal :=
  .next (transact (readHalf Config.params .irqAddr) s)

/-- `WR16 IRQ_ADDR, v` (R187). -/
def execWr16IrqAddr (v : Half) (s : State) : Host.Outcome State Fault Refusal :=
  .next (transact (fun s => writeReg v s .irqAddr) s)

/-- `RD16 XFER_ADDR` (R188). -/
def execRd16XferAddr (s : State) : Host.Outcome State Fault Refusal :=
  .next (transact (readHalf Config.params .xferAddr) s)

/-- `WR16 XFER_ADDR, v` (R188). -/
def execWr16XferAddr (v : Half) (s : State) : Host.Outcome State Fault Refusal :=
  .next (transact (fun s => writeReg v s .xferAddr) s)

/-- `RD16 XFER_PORT` (R155, R189). -/
def execRd16XferPort (s : State) : Host.Outcome State Fault Refusal :=
  .next (transact (readHalf Config.params .xferPort) s)

/-- `WR16 XFER_PORT, v` (R189). -/
def execWr16XferPort (v : Half) (s : State) : Host.Outcome State Fault Refusal :=
  .next (transact (fun s => writeReg v s .xferPort) s)

/-- `RD16 SPUCNT` (R190). -/
def execRd16Spucnt (s : State) : Host.Outcome State Fault Refusal :=
  .next (transact (readHalf Config.params .spucnt) s)

/-- `WR16 SPUCNT, v` (R190). -/
def execWr16Spucnt (v : Half) (s : State) : Host.Outcome State Fault Refusal :=
  .next (transact (fun s => writeReg v s .spucnt) s)

/-- `RD16 SPUSTAT` (R191). -/
def execRd16Spustat (s : State) : Host.Outcome State Fault Refusal :=
  .next (transact (readHalf Config.params .spustat) s)

/-- `WR16 SPUSTAT, v` (R191). -/
def execWr16Spustat (v : Half) (s : State) : Host.Outcome State Fault Refusal :=
  .next (transact (fun s => writeReg v s .spustat) s)

/-- `RD16 CDVOL_L` (R192). -/
def execRd16CdvolL (s : State) : Host.Outcome State Fault Refusal :=
  .next (transact (readHalf Config.params .cdvolL) s)

/-- `WR16 CDVOL_L, v` (R192). -/
def execWr16CdvolL (v : Half) (s : State) : Host.Outcome State Fault Refusal :=
  .next (transact (fun s => writeReg v s .cdvolL) s)

/-- `RD16 CDVOL_R` (R193). -/
def execRd16CdvolR (s : State) : Host.Outcome State Fault Refusal :=
  .next (transact (readHalf Config.params .cdvolR) s)

/-- `WR16 CDVOL_R, v` (R193). -/
def execWr16CdvolR (v : Half) (s : State) : Host.Outcome State Fault Refusal :=
  .next (transact (fun s => writeReg v s .cdvolR) s)

/-- `RD16 EXTVOL_L` (R194). -/
def execRd16ExtvolL (s : State) : Host.Outcome State Fault Refusal :=
  .next (transact (readHalf Config.params .extvolL) s)

/-- `WR16 EXTVOL_L, v` (R194). -/
def execWr16ExtvolL (v : Half) (s : State) : Host.Outcome State Fault Refusal :=
  .next (transact (fun s => writeReg v s .extvolL) s)

/-- `RD16 EXTVOL_R` (R195). -/
def execRd16ExtvolR (s : State) : Host.Outcome State Fault Refusal :=
  .next (transact (readHalf Config.params .extvolR) s)

/-- `WR16 EXTVOL_R, v` (R195). -/
def execWr16ExtvolR (v : Half) (s : State) : Host.Outcome State Fault Refusal :=
  .next (transact (fun s => writeReg v s .extvolR) s)

end Sys2Proof.Machine
end

