-- ==== Sys2Proof/Machine/Reverb.lean ====
section
/-! DEFINITION. The reverb filter processor (spec/44_reverb.md R380 to R397): stages (a) to (f) of each channel over the
circular work area, every operation clamped. -/

namespace Sys2Proof.Machine

open Sys2Proof

/-! ### Addressing -/

/-- `RevAddr(off)` (R381): the cursor's place in the work area plus the offset, reduced modulo the area's length, placed back
in the area and forced even. -/
def revAddr (s : State) (off : Int) : RamAddr :=
  let base : Int := byteAddr s.g.mBASE
  let len : Int := 0x80000 - base
  BitVec.ofInt 19 (base + (s.g.revCur.toNat - base + off) % len) &&& 0x7FFFE

/-- `RevRead(off)` (R382). -/
def revRead (off : Int) (s : State) : Int × State :=
  let a := revAddr s off
  (s16 (memRead2 s a.toNat), cellIrqCheck a s)

/-- `RevWrite(off, v)` (R383): dropped, with no interrupt check, when reverb writes are disabled. -/
def revWrite (off v : Int) (s : State) : State :=
  if revWriteEn s.g.spucnt then
    let a := revAddr s off
    memWrite2 a.toNat (u16 v) (cellIrqCheck a s)
  else s

/-! ### The stages of one channel -/

/-- The registers one channel uses (R384 to R390): its own, the other channel's cross-side delay tap (R386), and the ones
both share. -/
structure ChannelRegs where
  vIN : Half
  mSAME : Half
  dSAME : Half
  mDIFF : Half
  dDIFF : Half
  mCOMB1 : Half
  mCOMB2 : Half
  mCOMB3 : Half
  mCOMB4 : Half
  mAPF1 : Half
  mAPF2 : Half
  vOUT : Half
deriving DecidableEq, Repr

/-- The left channel reads the cross-side tap `dRDIFF` (R386). -/
def leftRegs (rv : ReverbRegs) : ChannelRegs where
  vIN := rv.vLIN
  mSAME := rv.mLSAME
  dSAME := rv.dLSAME
  mDIFF := rv.mLDIFF
  dDIFF := rv.dRDIFF
  mCOMB1 := rv.mLCOMB1
  mCOMB2 := rv.mLCOMB2
  mCOMB3 := rv.mLCOMB3
  mCOMB4 := rv.mLCOMB4
  mAPF1 := rv.mLAPF1
  mAPF2 := rv.mLAPF2
  vOUT := rv.vLOUT

/-- The right channel reads the cross-side tap `dLDIFF` (R386). -/
def rightRegs (rv : ReverbRegs) : ChannelRegs where
  vIN := rv.vRIN
  mSAME := rv.mRSAME
  dSAME := rv.dRSAME
  mDIFF := rv.mRDIFF
  dDIFF := rv.dLDIFF
  mCOMB1 := rv.mRCOMB1
  mCOMB2 := rv.mRCOMB2
  mCOMB3 := rv.mRCOMB3
  mCOMB4 := rv.mRCOMB4
  mAPF1 := rv.mRAPF1
  mAPF2 := rv.mRAPF2
  vOUT := rv.vROUT

/-- `sat16(mulq15(a, s16(v)))`, the clamped product by a volume-type register (R384). -/
def gain (a : Int) (v : Half) : Int := sat16 (mulq15 a (s16 v))

/-- Stages (b) and (c), a reflection (R385, R386): the one-pole filter of the delayed tap `d`, written at `m`. -/
def reflect (vWALL vIIR m d : Half) (xin : Int) (s : State) : State :=
  let (old, s1) := revRead (byteAddr m - 2) s
  let (tap, s2) := revRead (byteAddr d) s1
  let a1 := gain tap vWALL
  let a2 := sat16 (xin + a1)
  let a3 := sat16 (a2 - old)
  let a4 := gain a3 vIIR
  let a5 := sat16 (a4 + old)
  revWrite (byteAddr m) a5 s2

/-- Stage (d), the comb (R387): four taps in order, clamped after each add. -/
def comb (rv : ReverbRegs) (c : ChannelRegs) (s : State) : Int × State :=
  let (t1, s1) := revRead (byteAddr c.mCOMB1) s
  let (t2, s2) := revRead (byteAddr c.mCOMB2) s1
  let (t3, s3) := revRead (byteAddr c.mCOMB3) s2
  let (t4, s4) := revRead (byteAddr c.mCOMB4) s3
  (sat16 (sat16 (sat16 (gain t1 rv.vCOMB1 + gain t2 rv.vCOMB2) + gain t3 rv.vCOMB3) + gain t4 rv.vCOMB4), s4)

/-- Stage (e), one all-pass (R388, R389): the tap is read once and used twice; `y` is used although its write may be
dropped (R383). -/
def allPass (v m d : Half) (x : Int) (s : State) : Int × State :=
  let (t, s1) := revRead ((m.toNat - d.toNat) * 8) s
  let y := sat16 (x - gain t v)
  (sat16 (gain y v + t), revWrite (byteAddr m) y s1)

/-- One channel, stages (a) to (f) (R384 to R391). -/
def channel (c : ChannelRegs) (input : Int) (s : State) : Int × State :=
  let xin := gain input c.vIN
  let s1 := reflect s.rv.vWALL s.rv.vIIR c.mSAME c.dSAME xin s
  let s2 := reflect s.rv.vWALL s.rv.vIIR c.mDIFF c.dDIFF xin s1
  let (x0, s3) := comb s.rv c s2
  let (x1, s4) := allPass s.rv.vAPF1 c.mAPF1 s.rv.dAPF1 x0 s3
  let (x2, s5) := allPass s.rv.vAPF2 c.mAPF2 s.rv.dAPF2 x1 s4
  (gain x2 c.vOUT, s5)

/-- `CursorAdvance()` (R392). -/
def cursorAdvance (s : State) : State :=
  let next := s.g.revCur.toNat + 2
  { s with g := { s.g with revCur := if 0x7FFFF < next then cursorOf s.g.mBASE else BitVec.ofNat 19 next } }

/-- `Reverb(inL, inR)` (R380): the left channel wholly before the right, then the cursor. -/
def reverb (inL inR : Int) (s : State) : (Int × Int) × State :=
  let (oL, s1) := channel (leftRegs s.rv) inL s
  let (oR, s2) := channel (rightRegs s.rv) inR s1
  ((oL, oR), cursorAdvance s2)

end Sys2Proof.Machine
end

