-- ==== Sys2Proof/Machine/Adsr.lean ====
section
/-! DEFINITION. The ADSR envelope generator of one voice (spec/42_voice_adsr.md R310 to R321). -/

namespace Sys2Proof.Machine

open Sys2Proof

/-- The target, shift, step and mode of a phase (R311). -/
structure RateParams where
  target : Int
  shift : Nat
  stepBase : Int
  decreasing : Bool
  exponential : Bool
deriving DecidableEq, Repr

/-- `PhaseParams(n)` for the voice's phase and registers (R311, R321). Sustain's target is never tested (R319); the row of Off
is never used (R318). -/
def phaseParams (phase : Phase) (lo hi : Half) : RateParams :=
  match phase with
  | .off => { target := 0, shift := 0, stepBase := 0, decreasing := true, exponential := false }
  | .attack =>
    { target := 0x7FFF, shift := attackShift lo, stepBase := 7 - attackStep lo, decreasing := false,
      exponential := attackExp lo }
  | .decay =>
    { target := (sustainLevel lo + 1) * 0x800, shift := decayShift lo, stepBase := -8, decreasing := true,
      exponential := true }
  | .sustain =>
    { target := 0, shift := sustainShift hi,
      stepBase := if sustainDec hi then -8 + sustainStep hi else 7 - sustainStep hi,
      decreasing := sustainDec hi, exponential := sustainExp hi }
  | .release =>
    { target := 0, shift := releaseShift hi, stepBase := -8, decreasing := true, exponential := true }

/-- Mix steps from one level update to the next: `1 << max(0, shift - 11)` (R313). -/
def rateCycles (shift : Nat) : Nat := 2 ^ (shift - 11)

/-- The unscaled step: `stepBase << max(0, 11 - shift)` (R313). -/
def rateStep (stepBase : Int) (shift : Nat) : Int := stepBase * 2 ^ (11 - shift)

/-- The step at a level: divided by four above 0x6000 in an exponential increase (R314), scaled by the level in an
exponential decrease (R315), unchanged in a linear phase. -/
def scaledStep (r : RateParams) (level : Int) : Int :=
  let step := rateStep r.stepBase r.shift
  if r.exponential && !r.decreasing && decide (0x6000 < level) then sar step 2
  else if r.exponential && r.decreasing then sar (step * level) 15
  else step

/-- The level clamp (R316). -/
def clampLevel (x : Int) : Int := max 0 (min 0x7FFF x)

/-- The updated level has reached the phase's target (R310, R321). -/
def reachedTarget (r : RateParams) (level : Int) : Bool :=
  if r.decreasing then decide (level ≤ r.target) else decide (r.target ≤ level)

/-- `NextPhase(n)` (R317): the wait counter is zeroed with every transition, and Off zeroes the level. -/
def nextPhase (v : Voice) : Voice :=
  match v.phase with
  | .attack => { v with phase := .decay, adsrWait := 0 }
  | .decay => { v with phase := .sustain, adsrWait := 0 }
  | .release => { v with phase := .off, envLevel := 0, adsrWait := 0 }
  | .sustain => v
  | .off => v

/-- One level update (R310, R313 to R317). -/
def adsrUpdate (v : Voice) : Voice :=
  let r := phaseParams v.phase v.adsrLo v.adsrHi
  let level := clampLevel (s16 v.envLevel + scaledStep r (s16 v.envLevel))
  let v1 := { v with envLevel := u16 level, adsrWait := rateCycles r.shift - 1 }
  if reachedTarget r level && v.phase != .sustain then nextPhase v1 else v1

/-- `AdsrTick(n)` on a voice record (R310): Off holds the level at 0 (R318), a positive wait counter only counts down
(R312), else the level is updated. -/
def adsrVoice (v : Voice) : Voice :=
  if v.phase = .off then { v with envLevel := 0 }
  else if 0 < v.adsrWait then { v with adsrWait := v.adsrWait - 1 }
  else adsrUpdate v

/-- `AdsrTick(n)` (R310). -/
def adsrTick (n : VoiceId) (s : State) : State := s.setVoice n (adsrVoice (s.voice n))

end Sys2Proof.Machine
end

