-- ==== Sys2Proof/Machine/VoiceUnit.lean ====
section
/-! DEFINITION. The voice unit: key on and off, the ADPCM decoder, the 4-point interpolator, the pitch counter, the loop flags
and the voice step (spec/41_voice_adpcm.md R270 to R292). -/

namespace Sys2Proof.Machine

open Sys2Proof

/-! ### Key on, key off -/

/-- `KeyOn(n)` (R271). -/
def keyOn (n : VoiceId) (s : State) : State :=
  let v := s.voice n
  clearEndx n <| s.setVoice n
    { v with
      cur := cursorOf v.startAddr
      pcount := 0
      buf := Vector.replicate 28 0
      hist := Vector.replicate 3 0
      blkFlags := 0
      isLoaded := false
      envLevel := 0
      adsrWait := 0
      phase := .attack }

/-- `KeyOff(n)` (R272). -/
def keyOff (n : VoiceId) (s : State) : State :=
  if (s.voice n).phase = .off then s
  else s.setVoice n { s.voice n with phase := .release, adsrWait := 0 }

/-! ### ADPCM block decode -/

/-- `F0[f]`, a numerator over 64 (R275). -/
def predictorF0 (f : BitVec 2) : Int :=
  match f.toNat with
  | 0 => 0
  | 1 => 60
  | 2 => 115
  | _ => 98

/-- `F1[f]`, a numerator over 64 (R275). -/
def predictorF1 (f : BitVec 2) : Int :=
  match f.toNat with
  | 0 => 0
  | 1 => 0
  | 2 => -52
  | _ => -55

/-- The nibble of sample `i` of the block at `block`: the low one of byte `2 + (i >> 1)` for even `i` (R124). -/
def blockNibble (s : State) (block : RamAddr) (i : Nat) : BitVec 4 :=
  let byte := memRead1 s (block.toNat + 2 + i / 2)
  if i % 2 = 0 then byte.extractLsb' 0 4 else byte.extractLsb' 4 4

/-- One sample from a nibble and the two samples before it (R274, R276). -/
def adpcmSample (shift : Nat) (f : BitVec 2) (old older : Int) (nib : BitVec 4) : Int :=
  sat16 (sar (sext4 nib * 0x1000) shift + sar (old * predictorF0 f + older * predictorF1 f + 32) 6)

/-- The samples of a nibble stream: each saturated sample is what the predictor sees next (R274). -/
def adpcmRun (shift : Nat) (f : BitVec 2) : List (BitVec 4) → Int → Int → List Half
  | [], _, _ => []
  | nib :: rest, old, older =>
    let x := adpcmSample shift f old older nib
    u16 x :: adpcmRun shift f rest x old

theorem length_adpcmRun (shift : Nat) (f : BitVec 2) (nibs : List (BitVec 4)) (old older : Int) :
    (adpcmRun shift f nibs old older).length = nibs.length := by
  induction nibs generalizing old older with
  | nil => rfl
  | cons nib rest ih => simp [adpcmRun, ih]

/-- The 28 samples of the block at `block` (R274). -/
def decodedSamples (s : State) (block : RamAddr) (hdr : Byte) (old older : Int) : Vector Half 28 :=
  ⟨(adpcmRun (hdrShift hdr) (hdrFilter hdr) ((List.range 28).map (blockNibble s block)) old older).toArray,
    by simp [length_adpcmRun]⟩

/-- `DecodeBlock(n)` once the header is accepted (R274 from the history on, R277, R278). -/
def loadBlock (n : VoiceId) (s : State) : State :=
  let v := s.voice n
  let block := v.cur
  let flg := memRead1 s (block.toNat + 1)
  let s1 := s.setVoice n
    { v with
      hist := #v[v.buf[25], v.buf[26], v.buf[27]]
      buf := decodedSamples s block (memRead1 s block.toNat) (s16 v.buf[27]) (s16 v.buf[26])
      blkFlags := flg
      repeatAddr := if loopStartFlag flg then repeatOf block else v.repeatAddr }
  let s2 := voiceIrqCheck n block s1
  s2.setVoice n { s2.voice n with isLoaded := true }

/-- `DecodeBlock(n)` (R274): a reserved header is E3, before any voice state is written (R279). -/
def decodeBlock (n : VoiceId) (s : State) : State :=
  let block := (s.voice n).cur
  let hdr := memRead1 s block.toNat
  if hdrReserved hdr then raise (.adpcmHeaderBit6 n block) s
  else if 12 < hdrShift hdr then raise (.adpcmShift n block) s
  else loadBlock n s

/-! ### Interpolation and noise -/

/-- `Sample(n, k)` for `-3 <= k <= 27` (R280); beyond 27 the rule says nothing and the value is free (log 11). -/
def sampleAt (p : Params) (v : Voice) (k : Int) : Int :=
  if 0 ≤ k then
    if h : k.toNat < 28 then s16 v.buf[k.toNat] else s16 (p.strayed k.toNat)
  else if k = -1 then s16 v.hist[2]
  else if k = -2 then s16 v.hist[1]
  else s16 v.hist[0]

/-- `pcount[16:12]`, the sample index (R30). -/
def sampleIndex (pcount : BitVec 17) : Nat := (pcount.extractLsb' 12 5).toNat

/-- `pcount[11:0]`, the fractional position (R30). -/
def fraction (pcount : BitVec 17) : BitVec 12 := pcount.extractLsb' 0 12

/-- `Interpolate(n)` (R281): the sample at the index and the three before it, `c3` weighting the newest. -/
def interpolate (p : Params) (v : Voice) : Int :=
  let idx : Int := sampleIndex v.pcount
  let c := p.interp (fraction v.pcount)
  let acc := s16 c.c0 * sampleAt p v (idx - 3) + s16 c.c1 * sampleAt p v (idx - 2) +
    s16 c.c2 * sampleAt p v (idx - 1) + s16 c.c3 * sampleAt p v idx
  sat16 (sar acc 15)

/-- The raw sample of part 3 of the voice step (R270): the interpolator's output, or a fresh draw for a noise-enabled voice
(R283, log 7). -/
def rawSample (p : Params) (n : VoiceId) (s : State) : Int × State :=
  if maskBit s.g.non n then (s16 (p.noise s.draws), { s with draws := s.draws + 1 })
  else (interpolate p (s.voice n), s)

/-! ### Pitch -/

/-- `EffectiveStep(n)` (R284, R285): modulated by the sample voice n-1 produced in this mix step, capped at 0x4000. -/
def effectiveStep (n : VoiceId) (s : State) : Nat :=
  let raw := rawStep (s.voice n).pitch
  let step : Int :=
    if 0 < n.val ∧ maskBit s.g.pmon n = true then
      sar (raw * (s16 (s.voice ⟨n.val - 1, by omega⟩).lastSample + 0x8000)) 15
    else raw
  if 0x4000 < step then 0x4000 else step.toNat

/-- `LoopEnd(n)` (R288). The forced Off is a phase transition, so it zeroes the wait counter too (R312, log 18). -/
def loopEnd (n : VoiceId) (s : State) : State :=
  let s1 := setEndx n s
  let v := s1.voice n
  if loopRepeatFlag v.blkFlags then s1.setVoice n { v with cur := cursorOf v.repeatAddr }
  else s1.setVoice n { v with phase := .off, envLevel := 0, adsrWait := 0 }

/-- `BlockBoundary(n)` (R287). -/
def blockBoundary (n : VoiceId) (s : State) : State :=
  let v := s.voice n
  let s1 := s.setVoice n { v with pcount := v.pcount - 0x1C000, cur := v.cur + 16, isLoaded := false }
  if loopEndFlag v.blkFlags then loopEnd n s1 else s1

/-- `PitchAdvance(n, step)` (R286). -/
def pitchAdvance (n : VoiceId) (step : Nat) (s : State) : State :=
  let v := s.voice n
  let pcount := v.pcount + BitVec.ofNat 17 step
  let s1 := s.setVoice n { v with pcount := pcount }
  if 28 ≤ sampleIndex pcount then blockBoundary n s1 else s1

/-! ### Envelope scaling, contribution, the voice step -/

/-- `EnvelopeScale(raw, level)` (R289). -/
def envelopeScale (raw level : Int) : Int := sat16 (sar (raw * level) 15)

/-- `Contribution(n, out)` (R290): not clamped here. -/
def contribution (v : Voice) (out : Int) : Int × Int :=
  (mulq15 out (s16 v.volL), mulq15 out (s16 v.volR))

/-- An Off voice (R291). -/
def offVoice (n : VoiceId) (s : State) : State :=
  s.setVoice n { s.voice n with lastSample := 0, envLevel := 0 }

/-- Part 2 of the voice step: the lazy decode (R270, R273). -/
def ensureLoaded (n : VoiceId) (s : State) : State :=
  if (s.voice n).isLoaded then s else decodeBlock n s

/-- Parts 3 to 8 of the voice step (R270). -/
def voiceOutput (p : Params) (n : VoiceId) (s : State) : (Int × Int) × State :=
  let (raw, s1) := rawSample p n s
  let s2 := pitchAdvance n (effectiveStep n s1) s1
  let out := envelopeScale raw (s16 (s2.voice n).envLevel)
  let s3 := adsrTick n s2
  (contribution (s3.voice n) out, s3.setVoice n { s3.voice n with lastSample := u16 out })

/-- `VoiceStep(n)` (R270, R291): the voice's contribution. A reserved block header ends it (R279). -/
def voiceStep (p : Params) (n : VoiceId) (s : State) : (Int × Int) × State :=
  if (s.voice n).phase = .off then ((0, 0), offVoice n s)
  else
    let s1 := ensureLoaded n s
    if faulted s1 then ((0, 0), s1) else voiceOutput p n s1

end Sys2Proof.Machine
end

