-- ==== Sys2Proof/Machine/Mixer.lean ====
section
/-! DEFINITION. The mix step: key latch, voice sum, CD input, capture, half-rate reverb, final mix and output
(spec/43_mixer_tick.md R341 to R354). -/

namespace Sys2Proof.Machine

open Sys2Proof

/-- The running sums of a mix step, exact integers until their one clamp (R343, R354). -/
structure Sums where
  dryL : Int
  dryR : Int
  revL : Int
  revR : Int
deriving DecidableEq, Repr

/-- The sums at their zeroing (R343). -/
def Sums.zero : Sums := { dryL := 0, dryR := 0, revL := 0, revR := 0 }

/-- Key-on of voice `n` if its pending bit is set (R342). -/
def latchOn (kon : Mask) (s : State) (n : VoiceId) : State := if maskBit kon n then keyOn n s else s

/-- Key-off of voice `n` if its pending bit is set (R342). -/
def latchOff (koff : Mask) (s : State) (n : VoiceId) : State := if maskBit koff n then keyOff n s else s

/-- `KeyLatch()` (R342): all key-ons, then all key-offs, of the masks accumulated since the last mix step. -/
def keyLatch (s : State) : State :=
  let s1 := { s with g := { s.g with konPend := 0, koffPend := 0 } }
  let s2 := allVoices.foldl (latchOn s.g.konPend) s1
  allVoices.foldl (latchOff s.g.koffPend) s2

/-- A voice's contribution added to the dry sums, and to the reverb input if its `EON` bit is set (R290, R343). -/
def addVoice (acc : Sums) (c : Int × Int) (send : Bool) : Sums where
  dryL := acc.dryL + c.1
  dryR := acc.dryR + c.2
  revL := if send then acc.revL + c.1 else acc.revL
  revR := if send then acc.revR + c.2 else acc.revR

/-- The voice steps of a list of voices (R343); a fault in one ends the sum (R430). -/
def sumVoices (p : Params) : List VoiceId → Sums → State → Sums × State
  | [], acc, s => (acc, s)
  | n :: rest, acc, s =>
    let (c, s1) := voiceStep p n s
    if faulted s1 then (acc, s1) else sumVoices p rest (addVoice acc c (maskBit s1.g.eon n)) s1

/-- `VoiceSum()` (R343). -/
def voiceSum (p : Params) (s : State) : Sums × State := sumVoices p allVoices Sums.zero s

/-- `CdDequeue()` (R344): at most one pair, (0, 0) from an empty queue. -/
def cdDequeue (s : State) : (Half × Half) × State :=
  match s.cdq with
  | [] => ((0, 0), s)
  | pair :: rest => (pair, { s with cdq := rest })

/-- `CdMix(cl, cr)` (R345): to the dry mix with CD audio enabled, to the reverb input with both enables. -/
def cdMix (g : Global) (pair : Half × Half) (acc : Sums) : Sums :=
  let sl := mulq15 (s16 pair.1) (s16 g.cdVolL)
  let sr := mulq15 (s16 pair.2) (s16 g.cdVolR)
  if cdAudioEn g.spucnt then
    { dryL := acc.dryL + sl
      dryR := acc.dryR + sr
      revL := if cdRevEn g.spucnt then acc.revL + sl else acc.revL
      revR := if cdRevEn g.spucnt then acc.revR + sr else acc.revR }
  else acc

/-- `CaptureWrite(cl, cr)` and the advance of the offset (R346, R347): unconditional, with no interrupt check. -/
def captureWrite (cl cr : Half) (s : State) : State :=
  let o := s.g.capOffset.toNat
  let s1 := memWrite2 (0x000 + o) cl s
  let s2 := memWrite2 (0x400 + o) cr s1
  let s3 := memWrite2 (0x800 + o) (s.voice 1).lastSample s2
  let s4 := memWrite2 (0xC00 + o) (s.voice 3).lastSample s3
  { s4 with g := { s4.g with capOffset := s.g.capOffset + 2 } }

/-- Part 5 of the mix step (R341, R348): the reverb processor in the steps that find `revPhase` 0, its output added to the
dry sums; the phase toggles in every step. -/
def reverbPart (acc : Sums) (s : State) : Sums × State :=
  let toggle (s : State) : State := { s with g := { s.g with revPhase := !s.g.revPhase } }
  if s.g.revPhase then (acc, toggle s)
  else
    let (o, s1) := reverb (sat16 acc.revL) (sat16 acc.revR) s
    ({ acc with dryL := acc.dryL + o.1, dryR := acc.dryR + o.2 }, toggle s1)

/-- One channel of `FinalMix` (R349, R350): the sum clamped, scaled by the main volume, and zeroed if muted. -/
def finalChannel (spucnt vol : Half) (dry : Int) : Int :=
  if muted spucnt then 0 else sat16 (mulq15 (sat16 dry) (s16 vol))

/-- `FinalMix(dryL, dryR)` (R349, R350). -/
def finalMix (dryL dryR : Int) (s : State) : Int × Int :=
  (finalChannel s.g.spucnt s.g.mainVolL dryL, finalChannel s.g.spucnt s.g.mainVolR dryR)

/-- The four bytes of a stereo sample, left first, little-endian (R130). -/
def stereoBytes (l r : Half) : List Byte := [loByte l, hiByte l, loByte r, hiByte r]

/-- `OutputAppend(outL, outR)` and the sink flush (R351, R352). -/
def outputAppend (l r : Half) (s : State) : State :=
  let out := s.out ++ stereoBytes l r
  if out.length = 2048 then emit (.sinkAppend out) { s with out := [] } else { s with out := out }

/-- Parts 3 to 7 of the mix step (R341). -/
def mixOutput (acc : Sums) (s : State) : State :=
  let (pair, s1) := cdDequeue s
  let acc1 := cdMix s1.g pair acc
  let s2 := captureWrite pair.1 pair.2 s1
  let (acc2, s3) := reverbPart acc1 s2
  let o := finalMix acc2.dryL acc2.dryR s3
  outputAppend (u16 o.1) (u16 o.2) s3

/-- `MixStep()` (R341): its seven parts in order; a reserved block header in part 2 ends it (R279, R430). -/
def mixStep (p : Params) (s : State) : State :=
  let (acc, s1) := voiceSum p (keyLatch s)
  if faulted s1 then s1 else mixOutput acc s1

end Sys2Proof.Machine
end

