-- ==== Sys2Proof/Machine/Entry.lean ====
section
/-! DEFINITION. The entry points: the DMA bridge (spec/45_dma_bridge.md R410 to R415), the tick and the CD queue
(spec/43_mixer_tick.md R340, R353), and reset (spec/70_reset_and_hazards.md R470, R471). -/

namespace Sys2Proof.Machine

open Sys2Proof

/-- `G.xferCur <- (a + k) mod 0x80000` (R189, R410, R414). -/
def setCursor (a : RamAddr) (s : State) : State := { s with g := { s.g with xferCur := a } }

/-- `WriteWord(value)` (R410): the check with the cursor before the increment, then two cells, low half first. -/
def dmaWrite (w : Word) (s : State) : State :=
  if xferModeOk s.g.spucnt then
    let a := s.g.xferCur
    let s1 := dmaIrqCheck s
    let s2 := memWrite2 (a.toNat + 2) (wordHi w) (memWrite2 a.toNat (wordLo w) s1)
    setCursor (a + 4) s2
  else raise (.invalidState .dmaWrite) s

/-- `ReadWord()` (R411). -/
def dmaRead (s : State) : State :=
  if xferModeOk s.g.spucnt then
    let a := s.g.xferCur
    let s1 := dmaIrqCheck s
    let w := mkWord (memRead2 s1 (a.toNat + 2)) (memRead2 s1 a.toNat)
    returning (.word w) (setCursor (a + 4) s1)
  else raise (.invalidState .dmaRead) s

/-- One interval crossing (R340): the counter keeps its remainder, and a mix step runs if the master enable is set at that
moment. -/
def crossing (p : Params) (s : State) : State :=
  let s1 := { s with g := { s.g with cycleCount := s.g.cycleCount - 0x300 } }
  if masterEnable s1.g.spucnt then mixStep p s1 else s1

/-- The loop of `TICK` (R340): while the counter has reached 0x300 and nothing has faulted, at most `fuel` times. -/
def crossings (p : Params) : Nat → State → State
  | 0, s => s
  | fuel + 1, s =>
    if s.g.cycleCount < 0x300 then s
    else
      let s1 := crossing p s
      if faulted s1 then s1 else crossings p fuel s1

/-- `Tick(cycles)` (R340): one crossing for each 0x300 of the old count and the new cycles. -/
def runTick (p : Params) (cycles : Nat) (s : State) : State :=
  let total := s.g.cycleCount + cycles
  crossings p (total / 0x300) { s with g := { s.g with cycleCount := total } }

/-- `CD_PUSH l, r`: the pair at the tail of the queue, which has no capacity limit (R353). -/
def cdPush (l r : Half) (s : State) : State := { s with cdq := s.cdq ++ [(l, r)] }

/-- `RESET` (R470, R471): every piece of the block's state; what is still to be presented, and which noise draw comes next,
are not the block's (log 12). -/
def resetState (s : State) : State := { State.reset with pending := s.pending, draws := s.draws }

/-- `DMA_RD` (R411). -/
def execDmaRd (s : State) : Host.Outcome State Fault Refusal := .next (transact dmaRead s)

/-- `DMA_WR w` (R410). -/
def execDmaWr (w : Word) (s : State) : Host.Outcome State Fault Refusal := .next (transact (dmaWrite w) s)

/-- `TICK cycles` (R340). -/
def execTick (cycles : Nat) (s : State) : Host.Outcome State Fault Refusal :=
  .next (transact (runTick Config.params cycles) s)

/-- `CD_PUSH l, r` (R353). -/
def execCdPush (l r : Half) (s : State) : Host.Outcome State Fault Refusal := .next (transact (cdPush l r) s)

/-- `RESET` (R470): accepted in a faulted state too. -/
def execReset (s : State) : Host.Outcome State Fault Refusal := .next (resetState s)

end Sys2Proof.Machine
end

