-- ==== Sys2Proof/Machine/Internal.lean ====
section
/-! DEFINITION. The micro-operations of a mix step as transactions of kind `INT` (spec/30_encoding.md R111): each runs its
rule once, by itself (log 3). What a rule returns to the rule that calls it is the transaction's result. -/

namespace Sys2Proof.Machine

open Sys2Proof

/-- A micro-operation that returns two integers; one that a raise ended returns nothing (R430). -/
def returningPair (r : (Int × Int) × State) : State :=
  if faulted r.2 then r.2 else returning (.pair r.1.1 r.1.2) r.2

/-- `INT KeyOn` (R271). -/
def execIntKeyOn (n : VoiceId) (s : State) : Host.Outcome State Fault Refusal := .next (transact (keyOn n) s)

/-- `INT KeyOff` (R272). -/
def execIntKeyOff (n : VoiceId) (s : State) : Host.Outcome State Fault Refusal := .next (transact (keyOff n) s)

/-- `INT VoiceStep` (R270): returns the voice's contribution. -/
def execIntVoiceStep (n : VoiceId) (s : State) : Host.Outcome State Fault Refusal :=
  .next (transact (fun s => returningPair (voiceStep Config.params n s)) s)

/-- `INT DecodeBlock` (R274). -/
def execIntDecodeBlock (n : VoiceId) (s : State) : Host.Outcome State Fault Refusal :=
  .next (transact (decodeBlock n) s)

/-- `INT Interpolate` (R281): returns the raw sample. -/
def execIntInterpolate (n : VoiceId) (s : State) : Host.Outcome State Fault Refusal :=
  .next (transact (fun s => returning (.int (interpolate Config.params (s.voice n))) s) s)

/-- `INT EffectiveStep` (R285): returns the step. -/
def execIntEffectiveStep (n : VoiceId) (s : State) : Host.Outcome State Fault Refusal :=
  .next (transact (fun s => returning (.int (effectiveStep n s)) s) s)

/-- `INT PitchAdvance` (R286). -/
def execIntPitchAdvance (n : VoiceId) (step : BitVec 15) (s : State) : Host.Outcome State Fault Refusal :=
  .next (transact (pitchAdvance n step.toNat) s)

/-- `INT AdsrTick` (R310). -/
def execIntAdsrTick (n : VoiceId) (s : State) : Host.Outcome State Fault Refusal := .next (transact (adsrTick n) s)

/-- `INT MixStep` (R341). -/
def execIntMixStep (s : State) : Host.Outcome State Fault Refusal := .next (transact (mixStep Config.params) s)

/-- `INT KeyLatch` (R342). -/
def execIntKeyLatch (s : State) : Host.Outcome State Fault Refusal := .next (transact keyLatch s)

/-- `INT CaptureWrite` (R346, R347). -/
def execIntCaptureWrite (cl cr : Half) (s : State) : Host.Outcome State Fault Refusal :=
  .next (transact (captureWrite cl cr) s)

/-- `INT FinalMix` (R349, R350): returns the output sample. -/
def execIntFinalMix (dryL dryR : BitVec 21) (s : State) : Host.Outcome State Fault Refusal :=
  .next (transact (fun s => returningPair (finalMix dryL.toInt dryR.toInt s, s)) s)

/-- `INT OutputAppend` (R351, R352). -/
def execIntOutputAppend (outL outR : Half) (s : State) : Host.Outcome State Fault Refusal :=
  .next (transact (outputAppend outL outR) s)

/-- `INT Reverb` (R380): returns the stereo output. -/
def execIntReverb (inL inR : Half) (s : State) : Host.Outcome State Fault Refusal :=
  .next (transact (fun s => returningPair (reverb (s16 inL) (s16 inR) s)) s)

end Sys2Proof.Machine
end

