-- ==== Sys2Proof/Machine/ReverbRegs.lean ====
section
/-! DEFINITION. The half-word reads and writes of the reverb registers (spec/40_register_file.md R200 to R231). -/

namespace Sys2Proof.Machine

open Sys2Proof

/-- `RD16 dAPF1` (R200). -/
def execRd16DAPF1 (s : State) : Host.Outcome State Fault Refusal :=
  .next (transact (readHalf Config.params .dAPF1) s)

/-- `WR16 dAPF1, v` (R200). -/
def execWr16DAPF1 (v : Half) (s : State) : Host.Outcome State Fault Refusal :=
  .next (transact (fun s => writeReg v s .dAPF1) s)

/-- `RD16 dAPF2` (R201). -/
def execRd16DAPF2 (s : State) : Host.Outcome State Fault Refusal :=
  .next (transact (readHalf Config.params .dAPF2) s)

/-- `WR16 dAPF2, v` (R201). -/
def execWr16DAPF2 (v : Half) (s : State) : Host.Outcome State Fault Refusal :=
  .next (transact (fun s => writeReg v s .dAPF2) s)

/-- `RD16 vIIR` (R202). -/
def execRd16VIIR (s : State) : Host.Outcome State Fault Refusal :=
  .next (transact (readHalf Config.params .vIIR) s)

/-- `WR16 vIIR, v` (R202). -/
def execWr16VIIR (v : Half) (s : State) : Host.Outcome State Fault Refusal :=
  .next (transact (fun s => writeReg v s .vIIR) s)

/-- `RD16 vCOMB1` (R203). -/
def execRd16VCOMB1 (s : State) : Host.Outcome State Fault Refusal :=
  .next (transact (readHalf Config.params .vCOMB1) s)

/-- `WR16 vCOMB1, v` (R203). -/
def execWr16VCOMB1 (v : Half) (s : State) : Host.Outcome State Fault Refusal :=
  .next (transact (fun s => writeReg v s .vCOMB1) s)

/-- `RD16 vCOMB2` (R204). -/
def execRd16VCOMB2 (s : State) : Host.Outcome State Fault Refusal :=
  .next (transact (readHalf Config.params .vCOMB2) s)

/-- `WR16 vCOMB2, v` (R204). -/
def execWr16VCOMB2 (v : Half) (s : State) : Host.Outcome State Fault Refusal :=
  .next (transact (fun s => writeReg v s .vCOMB2) s)

/-- `RD16 vCOMB3` (R205). -/
def execRd16VCOMB3 (s : State) : Host.Outcome State Fault Refusal :=
  .next (transact (readHalf Config.params .vCOMB3) s)

/-- `WR16 vCOMB3, v` (R205). -/
def execWr16VCOMB3 (v : Half) (s : State) : Host.Outcome State Fault Refusal :=
  .next (transact (fun s => writeReg v s .vCOMB3) s)

/-- `RD16 vCOMB4` (R206). -/
def execRd16VCOMB4 (s : State) : Host.Outcome State Fault Refusal :=
  .next (transact (readHalf Config.params .vCOMB4) s)

/-- `WR16 vCOMB4, v` (R206). -/
def execWr16VCOMB4 (v : Half) (s : State) : Host.Outcome State Fault Refusal :=
  .next (transact (fun s => writeReg v s .vCOMB4) s)

/-- `RD16 vWALL` (R207). -/
def execRd16VWALL (s : State) : Host.Outcome State Fault Refusal :=
  .next (transact (readHalf Config.params .vWALL) s)

/-- `WR16 vWALL, v` (R207). -/
def execWr16VWALL (v : Half) (s : State) : Host.Outcome State Fault Refusal :=
  .next (transact (fun s => writeReg v s .vWALL) s)

/-- `RD16 vAPF1` (R208). -/
def execRd16VAPF1 (s : State) : Host.Outcome State Fault Refusal :=
  .next (transact (readHalf Config.params .vAPF1) s)

/-- `WR16 vAPF1, v` (R208). -/
def execWr16VAPF1 (v : Half) (s : State) : Host.Outcome State Fault Refusal :=
  .next (transact (fun s => writeReg v s .vAPF1) s)

/-- `RD16 vAPF2` (R209). -/
def execRd16VAPF2 (s : State) : Host.Outcome State Fault Refusal :=
  .next (transact (readHalf Config.params .vAPF2) s)

/-- `WR16 vAPF2, v` (R209). -/
def execWr16VAPF2 (v : Half) (s : State) : Host.Outcome State Fault Refusal :=
  .next (transact (fun s => writeReg v s .vAPF2) s)

/-- `RD16 mLSAME` (R210). -/
def execRd16MLSAME (s : State) : Host.Outcome State Fault Refusal :=
  .next (transact (readHalf Config.params .mLSAME) s)

/-- `WR16 mLSAME, v` (R210). -/
def execWr16MLSAME (v : Half) (s : State) : Host.Outcome State Fault Refusal :=
  .next (transact (fun s => writeReg v s .mLSAME) s)

/-- `RD16 mRSAME` (R211). -/
def execRd16MRSAME (s : State) : Host.Outcome State Fault Refusal :=
  .next (transact (readHalf Config.params .mRSAME) s)

/-- `WR16 mRSAME, v` (R211). -/
def execWr16MRSAME (v : Half) (s : State) : Host.Outcome State Fault Refusal :=
  .next (transact (fun s => writeReg v s .mRSAME) s)

/-- `RD16 mLCOMB1` (R212). -/
def execRd16MLCOMB1 (s : State) : Host.Outcome State Fault Refusal :=
  .next (transact (readHalf Config.params .mLCOMB1) s)

/-- `WR16 mLCOMB1, v` (R212). -/
def execWr16MLCOMB1 (v : Half) (s : State) : Host.Outcome State Fault Refusal :=
  .next (transact (fun s => writeReg v s .mLCOMB1) s)

/-- `RD16 mRCOMB1` (R213). -/
def execRd16MRCOMB1 (s : State) : Host.Outcome State Fault Refusal :=
  .next (transact (readHalf Config.params .mRCOMB1) s)

/-- `WR16 mRCOMB1, v` (R213). -/
def execWr16MRCOMB1 (v : Half) (s : State) : Host.Outcome State Fault Refusal :=
  .next (transact (fun s => writeReg v s .mRCOMB1) s)

/-- `RD16 mLCOMB2` (R214). -/
def execRd16MLCOMB2 (s : State) : Host.Outcome State Fault Refusal :=
  .next (transact (readHalf Config.params .mLCOMB2) s)

/-- `WR16 mLCOMB2, v` (R214). -/
def execWr16MLCOMB2 (v : Half) (s : State) : Host.Outcome State Fault Refusal :=
  .next (transact (fun s => writeReg v s .mLCOMB2) s)

/-- `RD16 mRCOMB2` (R215). -/
def execRd16MRCOMB2 (s : State) : Host.Outcome State Fault Refusal :=
  .next (transact (readHalf Config.params .mRCOMB2) s)

/-- `WR16 mRCOMB2, v` (R215). -/
def execWr16MRCOMB2 (v : Half) (s : State) : Host.Outcome State Fault Refusal :=
  .next (transact (fun s => writeReg v s .mRCOMB2) s)

/-- `RD16 dLSAME` (R216). -/
def execRd16DLSAME (s : State) : Host.Outcome State Fault Refusal :=
  .next (transact (readHalf Config.params .dLSAME) s)

/-- `WR16 dLSAME, v` (R216). -/
def execWr16DLSAME (v : Half) (s : State) : Host.Outcome State Fault Refusal :=
  .next (transact (fun s => writeReg v s .dLSAME) s)

/-- `RD16 dRSAME` (R217). -/
def execRd16DRSAME (s : State) : Host.Outcome State Fault Refusal :=
  .next (transact (readHalf Config.params .dRSAME) s)

/-- `WR16 dRSAME, v` (R217). -/
def execWr16DRSAME (v : Half) (s : State) : Host.Outcome State Fault Refusal :=
  .next (transact (fun s => writeReg v s .dRSAME) s)

/-- `RD16 mLDIFF` (R218). -/
def execRd16MLDIFF (s : State) : Host.Outcome State Fault Refusal :=
  .next (transact (readHalf Config.params .mLDIFF) s)

/-- `WR16 mLDIFF, v` (R218). -/
def execWr16MLDIFF (v : Half) (s : State) : Host.Outcome State Fault Refusal :=
  .next (transact (fun s => writeReg v s .mLDIFF) s)

/-- `RD16 mRDIFF` (R219). -/
def execRd16MRDIFF (s : State) : Host.Outcome State Fault Refusal :=
  .next (transact (readHalf Config.params .mRDIFF) s)

/-- `WR16 mRDIFF, v` (R219). -/
def execWr16MRDIFF (v : Half) (s : State) : Host.Outcome State Fault Refusal :=
  .next (transact (fun s => writeReg v s .mRDIFF) s)

/-- `RD16 mLCOMB3` (R220). -/
def execRd16MLCOMB3 (s : State) : Host.Outcome State Fault Refusal :=
  .next (transact (readHalf Config.params .mLCOMB3) s)

/-- `WR16 mLCOMB3, v` (R220). -/
def execWr16MLCOMB3 (v : Half) (s : State) : Host.Outcome State Fault Refusal :=
  .next (transact (fun s => writeReg v s .mLCOMB3) s)

/-- `RD16 mRCOMB3` (R221). -/
def execRd16MRCOMB3 (s : State) : Host.Outcome State Fault Refusal :=
  .next (transact (readHalf Config.params .mRCOMB3) s)

/-- `WR16 mRCOMB3, v` (R221). -/
def execWr16MRCOMB3 (v : Half) (s : State) : Host.Outcome State Fault Refusal :=
  .next (transact (fun s => writeReg v s .mRCOMB3) s)

/-- `RD16 mLCOMB4` (R222). -/
def execRd16MLCOMB4 (s : State) : Host.Outcome State Fault Refusal :=
  .next (transact (readHalf Config.params .mLCOMB4) s)

/-- `WR16 mLCOMB4, v` (R222). -/
def execWr16MLCOMB4 (v : Half) (s : State) : Host.Outcome State Fault Refusal :=
  .next (transact (fun s => writeReg v s .mLCOMB4) s)

/-- `RD16 mRCOMB4` (R223). -/
def execRd16MRCOMB4 (s : State) : Host.Outcome State Fault Refusal :=
  .next (transact (readHalf Config.params .mRCOMB4) s)

/-- `WR16 mRCOMB4, v` (R223). -/
def execWr16MRCOMB4 (v : Half) (s : State) : Host.Outcome State Fault Refusal :=
  .next (transact (fun s => writeReg v s .mRCOMB4) s)

/-- `RD16 dLDIFF` (R224). -/
def execRd16DLDIFF (s : State) : Host.Outcome State Fault Refusal :=
  .next (transact (readHalf Config.params .dLDIFF) s)

/-- `WR16 dLDIFF, v` (R224). -/
def execWr16DLDIFF (v : Half) (s : State) : Host.Outcome State Fault Refusal :=
  .next (transact (fun s => writeReg v s .dLDIFF) s)

/-- `RD16 dRDIFF` (R225). -/
def execRd16DRDIFF (s : State) : Host.Outcome State Fault Refusal :=
  .next (transact (readHalf Config.params .dRDIFF) s)

/-- `WR16 dRDIFF, v` (R225). -/
def execWr16DRDIFF (v : Half) (s : State) : Host.Outcome State Fault Refusal :=
  .next (transact (fun s => writeReg v s .dRDIFF) s)

/-- `RD16 mLAPF1` (R226). -/
def execRd16MLAPF1 (s : State) : Host.Outcome State Fault Refusal :=
  .next (transact (readHalf Config.params .mLAPF1) s)

/-- `WR16 mLAPF1, v` (R226). -/
def execWr16MLAPF1 (v : Half) (s : State) : Host.Outcome State Fault Refusal :=
  .next (transact (fun s => writeReg v s .mLAPF1) s)

/-- `RD16 mRAPF1` (R227). -/
def execRd16MRAPF1 (s : State) : Host.Outcome State Fault Refusal :=
  .next (transact (readHalf Config.params .mRAPF1) s)

/-- `WR16 mRAPF1, v` (R227). -/
def execWr16MRAPF1 (v : Half) (s : State) : Host.Outcome State Fault Refusal :=
  .next (transact (fun s => writeReg v s .mRAPF1) s)

/-- `RD16 mLAPF2` (R228). -/
def execRd16MLAPF2 (s : State) : Host.Outcome State Fault Refusal :=
  .next (transact (readHalf Config.params .mLAPF2) s)

/-- `WR16 mLAPF2, v` (R228). -/
def execWr16MLAPF2 (v : Half) (s : State) : Host.Outcome State Fault Refusal :=
  .next (transact (fun s => writeReg v s .mLAPF2) s)

/-- `RD16 mRAPF2` (R229). -/
def execRd16MRAPF2 (s : State) : Host.Outcome State Fault Refusal :=
  .next (transact (readHalf Config.params .mRAPF2) s)

/-- `WR16 mRAPF2, v` (R229). -/
def execWr16MRAPF2 (v : Half) (s : State) : Host.Outcome State Fault Refusal :=
  .next (transact (fun s => writeReg v s .mRAPF2) s)

/-- `RD16 vLIN` (R230). -/
def execRd16VLIN (s : State) : Host.Outcome State Fault Refusal :=
  .next (transact (readHalf Config.params .vLIN) s)

/-- `WR16 vLIN, v` (R230). -/
def execWr16VLIN (v : Half) (s : State) : Host.Outcome State Fault Refusal :=
  .next (transact (fun s => writeReg v s .vLIN) s)

/-- `RD16 vRIN` (R231). -/
def execRd16VRIN (s : State) : Host.Outcome State Fault Refusal :=
  .next (transact (readHalf Config.params .vRIN) s)

/-- `WR16 vRIN, v` (R231). -/
def execWr16VRIN (v : Half) (s : State) : Host.Outcome State Fault Refusal :=
  .next (transact (fun s => writeReg v s .vRIN) s)

end Sys2Proof.Machine
end

