-- ==== Sys2Proof/Machine/Sized.lean ====
section
/-! DEFINITION. The 8- and 32-bit accesses, composed from the 16-bit ones (spec/40_register_file.md R151 to R154). -/

namespace Sys2Proof.Machine

open Sys2Proof

/-- The even offset of the register that contains a byte offset: `off & 0xFFE` (R151). -/
def evenOffset (off : Offset) : Offset := off &&& 0xFFE

/-- `RD8 off` (R151): one byte of the half-word read of the containing register. -/
def readByteAt (p : Params) (off : Offset) (s : State) : State :=
  match readAt s (evenOffset off) with
  | some w => returning (.byte (byteAt off w)) s
  | none => unimplemented p .rd8 off (.byte 0) s

/-- `RD32 off` (R152): the half-word reads of `off` and `off + 2`, the high half from the higher offset. -/
def readWordAt (p : Params) (off : Offset) (s : State) : State :=
  if off.toNat % 4 = 0 then
    match readAt s off, readAt s (off + 2) with
    | some lo, some hi => returning (.word (mkWord hi lo)) s
    | _, _ => unimplemented p .rd32 off (.word 0) s
  else unimplemented p .rd32 off (.word 0) s

/-- `WR32 off, w` (R153): two half-word writes, low half first; the second is not performed if the first faults. -/
def writeWordAt (p : Params) (off : Offset) (w : Word) (s : State) : State :=
  if off.toNat % 4 = 0 then
    match regAt off, regAt (off + 2) with
    | some r0, some r1 =>
      let s1 := writeReg (wordLo w) s r0
      if faulted s1 then s1 else writeReg (wordHi w) s1 r1
    | _, _ => unimplemented p .wr32 off .none s
  else unimplemented p .wr32 off .none s

/-- `RD8 off` (R151). -/
def execRd8 (off : Offset) (s : State) : Host.Outcome State Fault Refusal :=
  .next (transact (readByteAt Config.params off) s)

/-- `WR8 off, b` (R154): never recognised, writes nothing. -/
def execWr8 (off : Offset) (_b : Byte) (s : State) : Host.Outcome State Fault Refusal :=
  .next (transact (unimplemented Config.params .wr8 off .none) s)

/-- `RD32 off` (R152). -/
def execRd32 (off : Offset) (s : State) : Host.Outcome State Fault Refusal :=
  .next (transact (readWordAt Config.params off) s)

/-- `WR32 off, w` (R153). -/
def execWr32 (off : Offset) (w : Word) (s : State) : Host.Outcome State Fault Refusal :=
  .next (transact (writeWordAt Config.params off w) s)

end Sys2Proof.Machine
end

