-- ==== Sys2Proof/Machine/Unrecognised.lean ====
section
/-! DEFINITION. The half-word accesses of offsets that hold no register, and the misaligned ones (spec/30_encoding.md R126,
spec/40_register_file.md R155, R156). -/

namespace Sys2Proof.Machine

open Sys2Proof

/-- `RD16 0xDA0`: no register (R126, R155). -/
def execRd16UnrecDA0 (s : State) : Host.Outcome State Fault Refusal :=
  .next (transact (unimplemented Config.params .rd16 0xDA0 (.half 0)) s)

/-- `RD16 0xDAC`: no register (R126, R155). -/
def execRd16UnrecDAC (s : State) : Host.Outcome State Fault Refusal :=
  .next (transact (unimplemented Config.params .rd16 0xDAC (.half 0)) s)

/-- `RD16 0xDB8`: no register (R126, R155). -/
def execRd16UnrecDB8 (s : State) : Host.Outcome State Fault Refusal :=
  .next (transact (unimplemented Config.params .rd16 0xDB8 (.half 0)) s)

/-- `RD16 0xDBA`: no register (R126, R155). -/
def execRd16UnrecDBA (s : State) : Host.Outcome State Fault Refusal :=
  .next (transact (unimplemented Config.params .rd16 0xDBA (.half 0)) s)

/-- `RD16 0xDBC`: no register (R126, R155). -/
def execRd16UnrecDBC (s : State) : Host.Outcome State Fault Refusal :=
  .next (transact (unimplemented Config.params .rd16 0xDBC (.half 0)) s)

/-- `RD16 0xDBE`: no register (R126, R155). -/
def execRd16UnrecDBE (s : State) : Host.Outcome State Fault Refusal :=
  .next (transact (unimplemented Config.params .rd16 0xDBE (.half 0)) s)

/-- `RD16` of an even offset 0xE00 to 0xE7E: no register (R126, R155). -/
def execRd16UnrecE00 (off : Offset) (s : State) : Host.Outcome State Fault Refusal :=
  .next (transact (unimplemented Config.params .rd16 off (.half 0)) s)

/-- `RD16` of an odd offset: treated as an unrecognised one (R156). -/
def execRd16Misaligned (off : Offset) (s : State) : Host.Outcome State Fault Refusal :=
  .next (transact (unimplemented Config.params .rd16 off (.half 0)) s)

/-- `WR16 0xDA0, v`: no register, the write is discarded (R126, R155). -/
def execWr16UnrecDA0 (_v : Half) (s : State) : Host.Outcome State Fault Refusal :=
  .next (transact (unimplemented Config.params .wr16 0xDA0 .none) s)

/-- `WR16 0xDAC, v`: no register, the write is discarded (R126, R155). -/
def execWr16UnrecDAC (_v : Half) (s : State) : Host.Outcome State Fault Refusal :=
  .next (transact (unimplemented Config.params .wr16 0xDAC .none) s)

/-- `WR16 0xDB8, v`: no register, the write is discarded (R126, R155). -/
def execWr16UnrecDB8 (_v : Half) (s : State) : Host.Outcome State Fault Refusal :=
  .next (transact (unimplemented Config.params .wr16 0xDB8 .none) s)

/-- `WR16 0xDBA, v`: no register, the write is discarded (R126, R155). -/
def execWr16UnrecDBA (_v : Half) (s : State) : Host.Outcome State Fault Refusal :=
  .next (transact (unimplemented Config.params .wr16 0xDBA .none) s)

/-- `WR16 0xDBC, v`: no register, the write is discarded (R126, R155). -/
def execWr16UnrecDBC (_v : Half) (s : State) : Host.Outcome State Fault Refusal :=
  .next (transact (unimplemented Config.params .wr16 0xDBC .none) s)

/-- `WR16 0xDBE, v`: no register, the write is discarded (R126, R155). -/
def execWr16UnrecDBE (_v : Half) (s : State) : Host.Outcome State Fault Refusal :=
  .next (transact (unimplemented Config.params .wr16 0xDBE .none) s)

/-- `WR16` of an even offset 0xE00 to 0xE7E: no register (R126, R155). -/
def execWr16UnrecE00 (off : Offset) (_v : Half) (s : State) : Host.Outcome State Fault Refusal :=
  .next (transact (unimplemented Config.params .wr16 off .none) s)

/-- `WR16` of an odd offset: treated as an unrecognised one (R156). -/
def execWr16Misaligned (off : Offset) (_v : Half) (s : State) : Host.Outcome State Fault Refusal :=
  .next (transact (unimplemented Config.params .wr16 off .none) s)

end Sys2Proof.Machine
end

