-- ==== Sys2Proof/Machine/VoiceRegs.lean ====
section
/-! DEFINITION. The half-word reads and writes of the voice registers (spec/40_register_file.md R160 to R167). -/

namespace Sys2Proof.Machine

open Sys2Proof

/-- `RD16 VOL_L(n)` (R160). -/
def execRd16VolL (n : VoiceId) (s : State) : Host.Outcome State Fault Refusal :=
  .next (transact (readHalf Config.params (.voice .volL n)) s)

/-- `RD16 VOL_R(n)` (R161). -/
def execRd16VolR (n : VoiceId) (s : State) : Host.Outcome State Fault Refusal :=
  .next (transact (readHalf Config.params (.voice .volR n)) s)

/-- `RD16 PITCH(n)` (R162). -/
def execRd16Pitch (n : VoiceId) (s : State) : Host.Outcome State Fault Refusal :=
  .next (transact (readHalf Config.params (.voice .pitch n)) s)

/-- `RD16 START(n)` (R163). -/
def execRd16Start (n : VoiceId) (s : State) : Host.Outcome State Fault Refusal :=
  .next (transact (readHalf Config.params (.voice .start n)) s)

/-- `RD16 ADSR_LO(n)` (R164). -/
def execRd16AdsrLo (n : VoiceId) (s : State) : Host.Outcome State Fault Refusal :=
  .next (transact (readHalf Config.params (.voice .adsrLo n)) s)

/-- `RD16 ADSR_HI(n)` (R165). -/
def execRd16AdsrHi (n : VoiceId) (s : State) : Host.Outcome State Fault Refusal :=
  .next (transact (readHalf Config.params (.voice .adsrHi n)) s)

/-- `RD16 ENV(n)` (R166). -/
def execRd16Env (n : VoiceId) (s : State) : Host.Outcome State Fault Refusal :=
  .next (transact (readHalf Config.params (.voice .env n)) s)

/-- `RD16 REPEAT(n)` (R167). -/
def execRd16Repeat (n : VoiceId) (s : State) : Host.Outcome State Fault Refusal :=
  .next (transact (readHalf Config.params (.voice .repeatAddr n)) s)

/-- `WR16 VOL_L(n), v` (R160). -/
def execWr16VolL (n : VoiceId) (v : Half) (s : State) : Host.Outcome State Fault Refusal :=
  .next (transact (fun s => writeReg v s (.voice .volL n)) s)

/-- `WR16 VOL_R(n), v` (R161). -/
def execWr16VolR (n : VoiceId) (v : Half) (s : State) : Host.Outcome State Fault Refusal :=
  .next (transact (fun s => writeReg v s (.voice .volR n)) s)

/-- `WR16 PITCH(n), v` (R162). -/
def execWr16Pitch (n : VoiceId) (v : Half) (s : State) : Host.Outcome State Fault Refusal :=
  .next (transact (fun s => writeReg v s (.voice .pitch n)) s)

/-- `WR16 START(n), v` (R163). -/
def execWr16Start (n : VoiceId) (v : Half) (s : State) : Host.Outcome State Fault Refusal :=
  .next (transact (fun s => writeReg v s (.voice .start n)) s)

/-- `WR16 ADSR_LO(n), v` (R164). -/
def execWr16AdsrLo (n : VoiceId) (v : Half) (s : State) : Host.Outcome State Fault Refusal :=
  .next (transact (fun s => writeReg v s (.voice .adsrLo n)) s)

/-- `WR16 ADSR_HI(n), v` (R165). -/
def execWr16AdsrHi (n : VoiceId) (v : Half) (s : State) : Host.Outcome State Fault Refusal :=
  .next (transact (fun s => writeReg v s (.voice .adsrHi n)) s)

/-- `WR16 ENV(n), v` (R166). -/
def execWr16Env (n : VoiceId) (v : Half) (s : State) : Host.Outcome State Fault Refusal :=
  .next (transact (fun s => writeReg v s (.voice .env n)) s)

/-- `WR16 REPEAT(n), v` (R167). -/
def execWr16Repeat (n : VoiceId) (v : Half) (s : State) : Host.Outcome State Fault Refusal :=
  .next (transact (fun s => writeReg v s (.voice .repeatAddr n)) s)

end Sys2Proof.Machine
end

