-- ==== Sys2Proof/Machine/Dispatch.lean ====
section
/-! DEFINITION. The meaning of every transaction and micro-operation, one arm per constructor of `Instr`. -/

namespace Sys2Proof.Machine

open Sys2Proof

def exec (i : Instr) (s : State) : Host.Outcome State Fault Refusal :=
  match i with
  | .rd16VolL n => Sys2Proof.Machine.execRd16VolL n s
  | .rd16VolR n => Sys2Proof.Machine.execRd16VolR n s
  | .rd16Pitch n => Sys2Proof.Machine.execRd16Pitch n s
  | .rd16Start n => Sys2Proof.Machine.execRd16Start n s
  | .rd16AdsrLo n => Sys2Proof.Machine.execRd16AdsrLo n s
  | .rd16AdsrHi n => Sys2Proof.Machine.execRd16AdsrHi n s
  | .rd16Env n => Sys2Proof.Machine.execRd16Env n s
  | .rd16Repeat n => Sys2Proof.Machine.execRd16Repeat n s
  | .wr16VolL n v => Sys2Proof.Machine.execWr16VolL n v s
  | .wr16VolR n v => Sys2Proof.Machine.execWr16VolR n v s
  | .wr16Pitch n v => Sys2Proof.Machine.execWr16Pitch n v s
  | .wr16Start n v => Sys2Proof.Machine.execWr16Start n v s
  | .wr16AdsrLo n v => Sys2Proof.Machine.execWr16AdsrLo n v s
  | .wr16AdsrHi n v => Sys2Proof.Machine.execWr16AdsrHi n v s
  | .wr16Env n v => Sys2Proof.Machine.execWr16Env n v s
  | .wr16Repeat n v => Sys2Proof.Machine.execWr16Repeat n v s
  | .rd16MvolL => Sys2Proof.Machine.execRd16MvolL s
  | .wr16MvolL v => Sys2Proof.Machine.execWr16MvolL v s
  | .rd16MvolR => Sys2Proof.Machine.execRd16MvolR s
  | .wr16MvolR v => Sys2Proof.Machine.execWr16MvolR v s
  | .rd16VLOUT => Sys2Proof.Machine.execRd16VLOUT s
  | .wr16VLOUT v => Sys2Proof.Machine.execWr16VLOUT v s
  | .rd16VROUT => Sys2Proof.Machine.execRd16VROUT s
  | .wr16VROUT v => Sys2Proof.Machine.execWr16VROUT v s
  | .rd16KonLo => Sys2Proof.Machine.execRd16KonLo s
  | .wr16KonLo v => Sys2Proof.Machine.execWr16KonLo v s
  | .rd16KonHi => Sys2Proof.Machine.execRd16KonHi s
  | .wr16KonHi v => Sys2Proof.Machine.execWr16KonHi v s
  | .rd16KoffLo => Sys2Proof.Machine.execRd16KoffLo s
  | .wr16KoffLo v => Sys2Proof.Machine.execWr16KoffLo v s
  | .rd16KoffHi => Sys2Proof.Machine.execRd16KoffHi s
  | .wr16KoffHi v => Sys2Proof.Machine.execWr16KoffHi v s
  | .rd16PmonLo => Sys2Proof.Machine.execRd16PmonLo s
  | .wr16PmonLo v => Sys2Proof.Machine.execWr16PmonLo v s
  | .rd16PmonHi => Sys2Proof.Machine.execRd16PmonHi s
  | .wr16PmonHi v => Sys2Proof.Machine.execWr16PmonHi v s
  | .rd16NonLo => Sys2Proof.Machine.execRd16NonLo s
  | .wr16NonLo v => Sys2Proof.Machine.execWr16NonLo v s
  | .rd16NonHi => Sys2Proof.Machine.execRd16NonHi s
  | .wr16NonHi v => Sys2Proof.Machine.execWr16NonHi v s
  | .rd16EonLo => Sys2Proof.Machine.execRd16EonLo s
  | .wr16EonLo v => Sys2Proof.Machine.execWr16EonLo v s
  | .rd16EonHi => Sys2Proof.Machine.execRd16EonHi s
  | .wr16EonHi v => Sys2Proof.Machine.execWr16EonHi v s
  | .rd16EndxLo => Sys2Proof.Machine.execRd16EndxLo s
  | .wr16EndxLo v => Sys2Proof.Machine.execWr16EndxLo v s
  | .rd16EndxHi => Sys2Proof.Machine.execRd16EndxHi s
  | .wr16EndxHi v => Sys2Proof.Machine.execWr16EndxHi v s
  | .rd16Mbase => Sys2Proof.Machine.execRd16Mbase s
  | .wr16Mbase v => Sys2Proof.Machine.execWr16Mbase v s
  | .rd16IrqAddr => Sys2Proof.Machine.execRd16IrqAddr s
  | .wr16IrqAddr v => Sys2Proof.Machine.execWr16IrqAddr v s
  | .rd16XferAddr => Sys2Proof.Machine.execRd16XferAddr s
  | .wr16XferAddr v => Sys2Proof.Machine.execWr16XferAddr v s
  | .rd16XferPort => Sys2Proof.Machine.execRd16XferPort s
  | .wr16XferPort v => Sys2Proof.Machine.execWr16XferPort v s
  | .rd16Spucnt => Sys2Proof.Machine.execRd16Spucnt s
  | .wr16Spucnt v => Sys2Proof.Machine.execWr16Spucnt v s
  | .rd16Spustat => Sys2Proof.Machine.execRd16Spustat s
  | .wr16Spustat v => Sys2Proof.Machine.execWr16Spustat v s
  | .rd16CdvolL => Sys2Proof.Machine.execRd16CdvolL s
  | .wr16CdvolL v => Sys2Proof.Machine.execWr16CdvolL v s
  | .rd16CdvolR => Sys2Proof.Machine.execRd16CdvolR s
  | .wr16CdvolR v => Sys2Proof.Machine.execWr16CdvolR v s
  | .rd16ExtvolL => Sys2Proof.Machine.execRd16ExtvolL s
  | .wr16ExtvolL v => Sys2Proof.Machine.execWr16ExtvolL v s
  | .rd16ExtvolR => Sys2Proof.Machine.execRd16ExtvolR s
  | .wr16ExtvolR v => Sys2Proof.Machine.execWr16ExtvolR v s
  | .rd16DAPF1 => Sys2Proof.Machine.execRd16DAPF1 s
  | .wr16DAPF1 v => Sys2Proof.Machine.execWr16DAPF1 v s
  | .rd16DAPF2 => Sys2Proof.Machine.execRd16DAPF2 s
  | .wr16DAPF2 v => Sys2Proof.Machine.execWr16DAPF2 v s
  | .rd16VIIR => Sys2Proof.Machine.execRd16VIIR s
  | .wr16VIIR v => Sys2Proof.Machine.execWr16VIIR v s
  | .rd16VCOMB1 => Sys2Proof.Machine.execRd16VCOMB1 s
  | .wr16VCOMB1 v => Sys2Proof.Machine.execWr16VCOMB1 v s
  | .rd16VCOMB2 => Sys2Proof.Machine.execRd16VCOMB2 s
  | .wr16VCOMB2 v => Sys2Proof.Machine.execWr16VCOMB2 v s
  | .rd16VCOMB3 => Sys2Proof.Machine.execRd16VCOMB3 s
  | .wr16VCOMB3 v => Sys2Proof.Machine.execWr16VCOMB3 v s
  | .rd16VCOMB4 => Sys2Proof.Machine.execRd16VCOMB4 s
  | .wr16VCOMB4 v => Sys2Proof.Machine.execWr16VCOMB4 v s
  | .rd16VWALL => Sys2Proof.Machine.execRd16VWALL s
  | .wr16VWALL v => Sys2Proof.Machine.execWr16VWALL v s
  | .rd16VAPF1 => Sys2Proof.Machine.execRd16VAPF1 s
  | .wr16VAPF1 v => Sys2Proof.Machine.execWr16VAPF1 v s
  | .rd16VAPF2 => Sys2Proof.Machine.execRd16VAPF2 s
  | .wr16VAPF2 v => Sys2Proof.Machine.execWr16VAPF2 v s
  | .rd16MLSAME => Sys2Proof.Machine.execRd16MLSAME s
  | .wr16MLSAME v => Sys2Proof.Machine.execWr16MLSAME v s
  | .rd16MRSAME => Sys2Proof.Machine.execRd16MRSAME s
  | .wr16MRSAME v => Sys2Proof.Machine.execWr16MRSAME v s
  | .rd16MLCOMB1 => Sys2Proof.Machine.execRd16MLCOMB1 s
  | .wr16MLCOMB1 v => Sys2Proof.Machine.execWr16MLCOMB1 v s
  | .rd16MRCOMB1 => Sys2Proof.Machine.execRd16MRCOMB1 s
  | .wr16MRCOMB1 v => Sys2Proof.Machine.execWr16MRCOMB1 v s
  | .rd16MLCOMB2 => Sys2Proof.Machine.execRd16MLCOMB2 s
  | .wr16MLCOMB2 v => Sys2Proof.Machine.execWr16MLCOMB2 v s
  | .rd16MRCOMB2 => Sys2Proof.Machine.execRd16MRCOMB2 s
  | .wr16MRCOMB2 v => Sys2Proof.Machine.execWr16MRCOMB2 v s
  | .rd16DLSAME => Sys2Proof.Machine.execRd16DLSAME s
  | .wr16DLSAME v => Sys2Proof.Machine.execWr16DLSAME v s
  | .rd16DRSAME => Sys2Proof.Machine.execRd16DRSAME s
  | .wr16DRSAME v => Sys2Proof.Machine.execWr16DRSAME v s
  | .rd16MLDIFF => Sys2Proof.Machine.execRd16MLDIFF s
  | .wr16MLDIFF v => Sys2Proof.Machine.execWr16MLDIFF v s
  | .rd16MRDIFF => Sys2Proof.Machine.execRd16MRDIFF s
  | .wr16MRDIFF v => Sys2Proof.Machine.execWr16MRDIFF v s
  | .rd16MLCOMB3 => Sys2Proof.Machine.execRd16MLCOMB3 s
  | .wr16MLCOMB3 v => Sys2Proof.Machine.execWr16MLCOMB3 v s
  | .rd16MRCOMB3 => Sys2Proof.Machine.execRd16MRCOMB3 s
  | .wr16MRCOMB3 v => Sys2Proof.Machine.execWr16MRCOMB3 v s
  | .rd16MLCOMB4 => Sys2Proof.Machine.execRd16MLCOMB4 s
  | .wr16MLCOMB4 v => Sys2Proof.Machine.execWr16MLCOMB4 v s
  | .rd16MRCOMB4 => Sys2Proof.Machine.execRd16MRCOMB4 s
  | .wr16MRCOMB4 v => Sys2Proof.Machine.execWr16MRCOMB4 v s
  | .rd16DLDIFF => Sys2Proof.Machine.execRd16DLDIFF s
  | .wr16DLDIFF v => Sys2Proof.Machine.execWr16DLDIFF v s
  | .rd16DRDIFF => Sys2Proof.Machine.execRd16DRDIFF s
  | .wr16DRDIFF v => Sys2Proof.Machine.execWr16DRDIFF v s
  | .rd16MLAPF1 => Sys2Proof.Machine.execRd16MLAPF1 s
  | .wr16MLAPF1 v => Sys2Proof.Machine.execWr16MLAPF1 v s
  | .rd16MRAPF1 => Sys2Proof.Machine.execRd16MRAPF1 s
  | .wr16MRAPF1 v => Sys2Proof.Machine.execWr16MRAPF1 v s
  | .rd16MLAPF2 => Sys2Proof.Machine.execRd16MLAPF2 s
  | .wr16MLAPF2 v => Sys2Proof.Machine.execWr16MLAPF2 v s
  | .rd16MRAPF2 => Sys2Proof.Machine.execRd16MRAPF2 s
  | .wr16MRAPF2 v => Sys2Proof.Machine.execWr16MRAPF2 v s
  | .rd16VLIN => Sys2Proof.Machine.execRd16VLIN s
  | .wr16VLIN v => Sys2Proof.Machine.execWr16VLIN v s
  | .rd16VRIN => Sys2Proof.Machine.execRd16VRIN s
  | .wr16VRIN v => Sys2Proof.Machine.execWr16VRIN v s
  | .rd16UnrecDA0 => Sys2Proof.Machine.execRd16UnrecDA0 s
  | .rd16UnrecDAC => Sys2Proof.Machine.execRd16UnrecDAC s
  | .rd16UnrecDB8 => Sys2Proof.Machine.execRd16UnrecDB8 s
  | .rd16UnrecDBA => Sys2Proof.Machine.execRd16UnrecDBA s
  | .rd16UnrecDBC => Sys2Proof.Machine.execRd16UnrecDBC s
  | .rd16UnrecDBE => Sys2Proof.Machine.execRd16UnrecDBE s
  | .rd16UnrecE00 off => Sys2Proof.Machine.execRd16UnrecE00 off s
  | .rd16Misaligned off => Sys2Proof.Machine.execRd16Misaligned off s
  | .wr16UnrecDA0 v => Sys2Proof.Machine.execWr16UnrecDA0 v s
  | .wr16UnrecDAC v => Sys2Proof.Machine.execWr16UnrecDAC v s
  | .wr16UnrecDB8 v => Sys2Proof.Machine.execWr16UnrecDB8 v s
  | .wr16UnrecDBA v => Sys2Proof.Machine.execWr16UnrecDBA v s
  | .wr16UnrecDBC v => Sys2Proof.Machine.execWr16UnrecDBC v s
  | .wr16UnrecDBE v => Sys2Proof.Machine.execWr16UnrecDBE v s
  | .wr16UnrecE00 off v => Sys2Proof.Machine.execWr16UnrecE00 off v s
  | .wr16Misaligned off v => Sys2Proof.Machine.execWr16Misaligned off v s
  | .rd8 off => Sys2Proof.Machine.execRd8 off s
  | .wr8 off b => Sys2Proof.Machine.execWr8 off b s
  | .rd32 off => Sys2Proof.Machine.execRd32 off s
  | .wr32 off w => Sys2Proof.Machine.execWr32 off w s
  | .dmaRd => Sys2Proof.Machine.execDmaRd s
  | .dmaWr w => Sys2Proof.Machine.execDmaWr w s
  | .tick cycles => Sys2Proof.Machine.execTick cycles s
  | .cdPush l r => Sys2Proof.Machine.execCdPush l r s
  | .reset => Sys2Proof.Machine.execReset s
  | .intKeyOn n => Sys2Proof.Machine.execIntKeyOn n s
  | .intKeyOff n => Sys2Proof.Machine.execIntKeyOff n s
  | .intVoiceStep n => Sys2Proof.Machine.execIntVoiceStep n s
  | .intDecodeBlock n => Sys2Proof.Machine.execIntDecodeBlock n s
  | .intInterpolate n => Sys2Proof.Machine.execIntInterpolate n s
  | .intEffectiveStep n => Sys2Proof.Machine.execIntEffectiveStep n s
  | .intPitchAdvance n step => Sys2Proof.Machine.execIntPitchAdvance n step s
  | .intAdsrTick n => Sys2Proof.Machine.execIntAdsrTick n s
  | .intMixStep => Sys2Proof.Machine.execIntMixStep s
  | .intKeyLatch => Sys2Proof.Machine.execIntKeyLatch s
  | .intCaptureWrite cl cr => Sys2Proof.Machine.execIntCaptureWrite cl cr s
  | .intFinalMix dryL dryR => Sys2Proof.Machine.execIntFinalMix dryL dryR s
  | .intOutputAppend outL outR => Sys2Proof.Machine.execIntOutputAppend outL outR s
  | .intReverb inL inR => Sys2Proof.Machine.execIntReverb inL inR s

end Sys2Proof.Machine
end

