-- ==== Sys2Proof/Machine/Step.lean ====
section
/-! DEFINITION. One step: the next presented transaction, decoded and run (spec/00_scope.md R12, spec/20_memory.md R92). -/

namespace Sys2Proof.Machine

open Sys2Proof

/-- One step of the block. Transactions are performed one at a time in the order in which they are presented (R92); with
none presented nothing changes, for nothing but a transaction changes the state (R12, R58, log 1); a word that is no
transaction is refused by name (log 10). -/
def step (s : State) : Host.Outcome State Fault Refusal :=
  match s.pending with
  | [] => .next s
  | t :: rest =>
    match decode t with
    | .instr i => exec i { s with pending := rest }
    | .rejected e => .refused (.undecodable e)

/-- The state with the transaction of a table word presented next (log 1): an agent presents it. -/
def State.withFetchWord (s : State) (nbits w : Nat) : State :=
  { s with pending := Transaction.ofTableWord nbits w :: s.pending }

end Sys2Proof.Machine
end

