-- ==== Sys2Proof/Safety.lean ====
section
/-! DEFINITION. What counts as a good state of the block: the invariants of spec/10_state.md R57 and the ones other rules
state of single fields (R35, R42, R436), and the canonical form of the model's memory. The clauses are split by what
keeps them: `Safety.Inv` is kept by every transaction and every micro-operation, in faulted states too; `Safety.Counted`
speaks of unfaulted states; `Safety.DisabledOff` is kept by everything an outside agent can present. -/

namespace Sys2Proof.Safety

open Sys2Proof Sys2Proof.Machine

/-- No error condition is recorded (R430). -/
abbrev NoError (s : State) : Prop := s.fault = none

/-- A voice record in range: R57 I-a, I-c, I-f, and R35. -/
structure VoiceOk (v : Voice) : Prop where
  level : v.envLevel.toNat ≤ 0x7FFF
  cursor : v.cur.toNat % 8 = 0
  position : v.pcount.toNat < 0x1C000
  wait : v.adsrWait < 2 ^ 20

/-- The global record in range: R57 I-c, I-d, and the invariant of R436. -/
structure GlobalOk (g : Global) : Prop where
  xferEven : g.xferCur.toNat % 2 = 0
  revEven : g.revCur.toNat % 2 = 0
  capEven : g.capOffset.toNat % 2 = 0
  revLow : byteAddr g.mBASE ≤ g.revCur.toNat
  revHigh : g.revCur.toNat ≤ 0x7FFFE
  irq : g.irqFlag = true → irq9En g.spucnt = true

/-- The output buffer between two mix steps: R57 I-g. -/
structure OutOk (out : List Byte) : Prop where
  whole : out.length % 4 = 0
  short : out.length < 2048

/-- R57 I-a, I-c, I-d, I-f, I-g, with R35, R436 and the canonical form of Sound RAM. -/
structure Inv (s : State) : Prop where
  voices : ∀ n : VoiceId, VoiceOk (s.voice n)
  globals : GlobalOk s.g
  output : OutOk s.out
  memory : Memory.wf s.ram = true

/-- R57 I-e: in an unfaulted state the cycle counter is below one interval. -/
def Counted (s : State) : Prop := NoError s → s.g.cycleCount < 0x300

/-- R57 I-h: with the master enable clear every voice is Off. -/
def DisabledOff (s : State) : Prop :=
  masterEnable s.g.spucnt = false → ∀ n : VoiceId, (s.voice n).phase = .off

/-- A header byte that the decoder accepts (R122, R125 #1 and #2). -/
def LegalHeader (hdr : Byte) : Prop := hdrReserved hdr = false ∧ hdrShift hdr ≤ 12

/-- The voice decodes a block in its next voice step (R270 part 2, R273). -/
def NeedsDecode (v : Voice) : Prop := v.phase ≠ .off ∧ v.isLoaded = false

/-- Every voice that decodes a block in the next mix step, after its key latch, finds an accepted header. -/
def HeadersReady (s : State) : Prop :=
  ∀ n : VoiceId, NeedsDecode ((keyLatch s).voice n) → LegalHeader (memRead1 s ((keyLatch s).voice n).cur.toNat)

/-- How many interrupts the block has raised: the `Irq9` events of a trace (R431, R436). -/
def irqCount : List Event → Nat
  | [] => 0
  | .irq9 _ :: rest => irqCount rest + 1
  | .sinkAppend _ :: rest => irqCount rest
  | .logUnimplemented _ _ :: rest => irqCount rest

/-- How many bytes have gone to the audio sink: those of the `SinkAppend` events of a trace (R352, R431). -/
def sunkBytes : List Event → Nat
  | [] => 0
  | .irq9 _ :: rest => sunkBytes rest
  | .sinkAppend bytes :: rest => bytes.length + sunkBytes rest
  | .logUnimplemented _ _ :: rest => sunkBytes rest

/-- An event with the bytes that went to the sink replaced by as many zeros: what is left of it when only the samples may
differ (R350, R431). -/
def maskSamples : Event → Event
  | .irq9 source => .irq9 source
  | .sinkAppend bytes => .sinkAppend (List.replicate bytes.length 0)
  | .logUnimplemented kind off => .logUnimplemented kind off

/-! ### The words in which statements are made -/

/-- From `s` to `t` Sound RAM changed at `bytes.length` bytes from address `a` on, modulo 0x80000, which now hold `bytes`;
every other byte reads as before. -/
def Stored (a : Nat) (bytes : List Byte) (s t : State) : Prop :=
  ∀ x, x < 0x80000 → memRead1 t x = (bytes[(x + 0x80000 - a % 0x80000) % 0x80000]?).getD (memRead1 s x)

/-- What an access that matches the IRQ address exactly if `hit` does to the flag and the trace (R436). -/
def Checked (hit : Prop) (source : IrqSource) (s t : State) : Prop :=
  (hit ∧ irq9En s.g.spucnt = true ∧ s.g.irqFlag = false →
      t.g.irqFlag = true ∧ t.trace = s.trace ++ [.irq9 source]) ∧
    (¬ (hit ∧ irq9En s.g.spucnt = true ∧ s.g.irqFlag = false) → t.g.irqFlag = s.g.irqFlag ∧ t.trace = s.trace)

/-- The state after an access to an unrecognised offset, in the session's mode (R155). -/
def Unrecognised (kind : AccessKind) (off : Offset) (zero : Result) (s : State) : State :=
  if Config.strict then { s with fault := some (.unimplementedRegister kind off), result := .none }
  else { s with trace := s.trace ++ [.logUnimplemented kind off], result := zero }

/-- The envelope generator of voice `n` called `k` times (R310). -/
def adsrTicks (n : VoiceId) : Nat → State → State
  | 0, s => s
  | k + 1, s =>
    match exec (.intAdsrTick n) s with
    | .next t => adsrTicks n k t
    | .fault _ => s
    | .refused _ => s

/-- The cell at a reverb offset, read in the memory of `m`, with base and cursor of `s` (R381, R382). -/
def revCell (s m : State) (off : Int) : Int := s16 (memRead2 m (revAddr s off).toNat)

/-- The reverb write of `v` at an offset took the memory of `m` to that of `m'`: dropped when writes are disabled (R383). -/
def RevStored (s : State) (off v : Int) (m m' : State) : Prop :=
  if revWriteEn s.g.spucnt then Stored (revAddr s off).toNat [loByte (u16 v), hiByte (u16 v)] m m'
  else ∀ x, memRead1 m' x = memRead1 m x

/-- The offsets one channel of the reverb processor accesses, in the order of R391; a write is an access only when reverb writes
are enabled (R383). -/
def channelOffsets (s : State) (mSAME dSAME mDIFF dDIFF mCOMB1 mCOMB2 mCOMB3 mCOMB4 mAPF1 mAPF2 : Half) : List Int :=
  let write (m : Half) : List Int := if revWriteEn s.g.spucnt then [(byteAddr m : Int)] else []
  [(byteAddr mSAME : Int) - 2, (byteAddr dSAME : Int)] ++ write mSAME ++
    [(byteAddr mDIFF : Int) - 2, (byteAddr dDIFF : Int)] ++ write mDIFF ++
    [(byteAddr mCOMB1 : Int), (byteAddr mCOMB2 : Int), (byteAddr mCOMB3 : Int), (byteAddr mCOMB4 : Int)] ++
    [((mAPF1.toNat : Int) - s.rv.dAPF1.toNat) * 8] ++ write mAPF1 ++
    [((mAPF2.toNat : Int) - s.rv.dAPF2.toNat) * 8] ++ write mAPF2

/-- The offsets an invocation of the reverb processor accesses, in order: the left channel's, with the cross tap `dRDIFF`, then
the right channel's, with the cross tap `dLDIFF` (R391). -/
def reverbOffsets (s : State) : List Int :=
  channelOffsets s s.rv.mLSAME s.rv.dLSAME s.rv.mLDIFF s.rv.dRDIFF s.rv.mLCOMB1 s.rv.mLCOMB2 s.rv.mLCOMB3 s.rv.mLCOMB4
      s.rv.mLAPF1 s.rv.mLAPF2 ++
    channelOffsets s s.rv.mRSAME s.rv.dRSAME s.rv.mRDIFF s.rv.dLDIFF s.rv.mRCOMB1 s.rv.mRCOMB2 s.rv.mRCOMB3 s.rv.mRCOMB4
      s.rv.mRAPF1 s.rv.mRAPF2

/-- The cell at `a` is the one at the IRQ address or the one before it (R435, R438). -/
def irqCell (s : State) (a : RamAddr) : Bool :=
  decide (a.toNat = s.g.irqAddr.toNat * 8) || decide (a.toNat = (s.g.irqAddr.toNat * 8 + 0x7FFFE) % 0x80000)

/-- The value a reflection writes, from its input, the filter's previous output and the delayed tap (R385, R386). -/
def reflected (vWALL vIIR : Half) (xin old tap : Int) : Int :=
  let a1 := sat16 (mulq15 tap (s16 vWALL))
  let a2 := sat16 (xin + a1)
  let a3 := sat16 (a2 - old)
  let a4 := sat16 (mulq15 a3 (s16 vIIR))
  sat16 (a4 + old)

/-- One channel of the reverb processor, line by line, from the memory of `m0` to that of `m4`, with result `out`
(R384 to R391). -/
def ChannelRun (s : State) (c : ChannelRegs) (input out : Int) (m0 m4 : State) : Prop :=
  ∃ m1 m2 m3 : State,
    let xin := sat16 (mulq15 input (s16 c.vIN))
    let same := reflected s.rv.vWALL s.rv.vIIR xin (revCell s m0 (byteAddr c.mSAME - 2)) (revCell s m0 (byteAddr c.dSAME))
    let diff := reflected s.rv.vWALL s.rv.vIIR xin (revCell s m1 (byteAddr c.mDIFF - 2)) (revCell s m1 (byteAddr c.dDIFF))
    let p1 := sat16 (mulq15 (revCell s m2 (byteAddr c.mCOMB1)) (s16 s.rv.vCOMB1))
    let p2 := sat16 (mulq15 (revCell s m2 (byteAddr c.mCOMB2)) (s16 s.rv.vCOMB2))
    let p3 := sat16 (mulq15 (revCell s m2 (byteAddr c.mCOMB3)) (s16 s.rv.vCOMB3))
    let p4 := sat16 (mulq15 (revCell s m2 (byteAddr c.mCOMB4)) (s16 s.rv.vCOMB4))
    let x0 := sat16 (sat16 (sat16 (p1 + p2) + p3) + p4)
    let t1 := revCell s m2 ((c.mAPF1.toNat - s.rv.dAPF1.toNat) * 8)
    let y1 := sat16 (x0 - sat16 (mulq15 t1 (s16 s.rv.vAPF1)))
    let x1 := sat16 (sat16 (mulq15 y1 (s16 s.rv.vAPF1)) + t1)
    let t2 := revCell s m3 ((c.mAPF2.toNat - s.rv.dAPF2.toNat) * 8)
    let y2 := sat16 (x1 - sat16 (mulq15 t2 (s16 s.rv.vAPF2)))
    let x2 := sat16 (sat16 (mulq15 y2 (s16 s.rv.vAPF2)) + t2)
    RevStored s (byteAddr c.mSAME) same m0 m1 ∧ RevStored s (byteAddr c.mDIFF) diff m1 m2 ∧
      RevStored s (byteAddr c.mAPF1) y1 m2 m3 ∧ RevStored s (byteAddr c.mAPF2) y2 m3 m4 ∧
      out = sat16 (mulq15 x2 (s16 c.vOUT))

end Sys2Proof.Safety
end

