-- ==== Sys2Proof/Certificates/Slice0/Obligations.lean ====
section
/-! DEFINITION. The statements for the provers. `returning r s` is `s` with the result `r` (log 8); a completed transaction that
returns nothing leaves `Result.none`. Numbers that look like bit tests are the spec's own slices: `v.getLsbD k` is `v[k]`, and
`/` and `%` on integers by a positive number are floor and mod (R10). -/

open Sys2Proof Sys2Proof.Machine Sys2Proof.Safety

/-! ## Encoding and the register map -/

/-- R110 to R115, R126: every well-formed transaction is what the decoder reads from its encoding, every operand at every value.
How an operand lies beside its selector is the model's choice (log 2). -/
def Obligations.DecodeOfEncode : Prop :=
  ∀ i : Instr, i.wf = true → decode (encode i) = .instr i

/-- R110, R111: a presented word that decodes is the encoding of what it decodes to, and that is well formed: no bit of a
selector or an operand is dropped, and no two words stand for one transaction. How an operand lies beside its selector is the
model's choice (log 2). -/
def Obligations.EncodeOfDecode : Prop :=
  ∀ (t : Transaction) (i : Instr), decode t = .instr i → i.wf = true ∧ encode i = t

/-- Words written out in the spec's examples (R128, R150, R153, R160, R186, R340, R410). How an operand lies beside its selector is
the model's choice (log 2). -/
def Obligations.ExampleWordsDecode : Prop :=
  decode { selector := 0x0C34, operand := 0 } = .instr (.rd16Pitch 3) ∧
  decode { selector := 0x1C00, operand := 0x3FFF } = .instr (.wr16VolL 0 0x3FFF) ∧
  decode { selector := 0x1C12, operand := 0xC000 } = .instr (.wr16VolR 1 0xC000) ∧
  decode { selector := 0x1DA2, operand := 0xF000 } = .instr (.wr16Mbase 0xF000) ∧
  decode { selector := 0x1DC6, operand := 0x4000 } = .instr (.wr16VCOMB1 0x4000) ∧
  decode { selector := 0x2DAE, operand := 0 } = .instr (.rd8 0xDAE) ∧
  decode { selector := 0x3DAA, operand := 0x20 } = .instr (.wr8 0xDAA 0x20) ∧
  decode { selector := 0x4D9C, operand := 0 } = .instr (.rd32 0xD9C) ∧
  decode { selector := 0x5D88, operand := 0x00800001 } = .instr (.wr32 0xD88 0x00800001) ∧
  decode { selector := 0x8000, operand := 0 } = .instr .dmaRd ∧
  decode { selector := 0x9000, operand := 0xAABBCCDD } = .instr (.dmaWr 0xAABBCCDD) ∧
  decode { selector := 0xA000, operand := 0x700 } = .instr (.tick 0x700) ∧
  decode { selector := 0xE010, operand := 0 } = .instr .intMixStep ∧
  decode { selector := 0xF000, operand := 0 } = .instr .reset

/-- R112, R113: an even offset 0xC00 to 0xD7F is the register `off[3:0]` of voice `((off & 0xFF0) >> 4) - 0xC0`. -/
def Obligations.VoiceOffsetsByFormula : Prop :=
  ∀ off : Offset, 0xC00 ≤ off.toNat → off.toNat ≤ 0xD7F → off.toNat % 2 = 0 →
    ∃ (r : VoiceReg) (n : VoiceId), regAt off = some (.voice r n) ∧
      n.val = ((off &&& 0xFF0) >>> 4).toNat - 0xC0 ∧ r.sub = (off &&& 0xF).toNat

/-- R126: the offsets of the window that a half-word read, and a half-word write, does not recognise. -/
def Obligations.UnrecognisedOffsets : Prop :=
  ∀ (s : State) (off : Offset), 0xC00 ≤ off.toNat → off.toNat ≤ 0xE7F →
    (readAt s off = none ↔
      off.toNat % 2 = 1 ∨ off.toNat ∈ [0xDA0, 0xDAC, 0xDB8, 0xDBA, 0xDBC, 0xDBE] ∨ off.toNat = 0xDA8 ∨ 0xE00 ≤ off.toNat) ∧
    (regAt off = none ↔
      off.toNat % 2 = 1 ∨ off.toNat ∈ [0xDA0, 0xDAC, 0xDB8, 0xDBA, 0xDBC, 0xDBE] ∨ 0xE00 ≤ off.toNat)

/-! ## The step, the fault mark, reset -/

/-- R92: the step performs the transaction presented next, and what a table word stands for is what `withFetchWord` presents;
with nothing presented nothing changes (R12, R58); a word that is no transaction is refused by name (log 10). The list of
presented transactions is the model's own (log 1). -/
def Obligations.StepRunsTheDecodedTransaction : Prop :=
  (∀ (s : State) (t : Transaction) (rest : List Transaction) (i : Instr),
    s.pending = t :: rest → decode t = .instr i → step s = exec i { s with pending := rest }) ∧
  (∀ (s : State) (nbits w : Nat) (i : Instr), decodeTableWord nbits w = some i → step (s.withFetchWord nbits w) = exec i s) ∧
  (∀ s : State, s.pending = [] → step s = .next s) ∧
  (∀ (s : State) (t : Transaction) (rest : List Transaction) (e : DecodeError),
    s.pending = t :: rest → decode t = .rejected e → step s = .refused (.undecodable e))

/-- R430: in a faulted state every transaction but `RESET` changes nothing and returns nothing; the model says `refused` in its
own result field (log 4, log 8). -/
def Obligations.FaultedBlockRefuses : Prop :=
  ∀ (i : Instr) (s : State), ¬ NoError s → i ≠ .reset → exec i s = .next { s with result := .refused }

/-- R471: the reset value of every piece of the block's state. -/
def Obligations.ResetValues : Prop :=
  (∀ a, memRead1 State.reset a = 0x00) ∧
  (∀ n : VoiceId, State.reset.voice n =
    { volL := 0
      volR := 0
      pitch := 0
      startAddr := 0
      repeatAddr := 0
      adsrLo := 0
      adsrHi := 0
      envLevel := 0
      phase := .off
      cur := 0
      pcount := 0
      buf := Vector.replicate 28 0
      hist := Vector.replicate 3 0
      blkFlags := 0
      isLoaded := false
      lastSample := 0
      adsrWait := 0 }) ∧
  State.reset.g =
    { endx := 0
      konPend := 0
      koffPend := 0
      pmon := 0
      non := 0
      eon := 0
      mainVolL := 0
      mainVolR := 0
      cdVolL := 0
      cdVolR := 0
      extVolL := 0
      extVolR := 0
      spucnt := 0
      irqFlag := false
      irqAddr := 0
      xferAddr := 0
      xferCur := 0
      mBASE := 0
      revCur := 0
      revPhase := false
      capOffset := 0
      cycleCount := 0 } ∧
  State.reset.rv =
    { vLIN := 0
      vRIN := 0
      vIIR := 0
      vWALL := 0
      vCOMB1 := 0
      vCOMB2 := 0
      vCOMB3 := 0
      vCOMB4 := 0
      vAPF1 := 0
      vAPF2 := 0
      vLOUT := 0
      vROUT := 0
      mLSAME := 0
      mRSAME := 0
      mLDIFF := 0
      mRDIFF := 0
      dLSAME := 0
      dRSAME := 0
      dLDIFF := 0
      dRDIFF := 0
      mLCOMB1 := 0
      mRCOMB1 := 0
      mLCOMB2 := 0
      mRCOMB2 := 0
      mLCOMB3 := 0
      mRCOMB3 := 0
      mLCOMB4 := 0
      mRCOMB4 := 0
      mLAPF1 := 0
      mRAPF1 := 0
      mLAPF2 := 0
      mRAPF2 := 0
      dAPF1 := 0
      dAPF2 := 0 } ∧
  State.reset.cdq = [] ∧ State.reset.out = [] ∧ State.reset.fault = none ∧ State.reset.trace = [] ∧
  readReg State.reset .spustat = some 0

/-- R470: `RESET` in any state, faulted or not, gives the reset state; what is still to be presented and the place in the noise
stream are not the block's (log 12). -/
def Obligations.ResetTransaction : Prop :=
  ∀ s : State, exec .reset s = .next { State.reset with pending := s.pending, draws := s.draws }

/-- The reset state meets the invariants (R57, R471). -/
def Obligations.ResetMeetsTheInvariants : Prop :=
  Inv State.reset ∧ Counted State.reset ∧ DisabledOff State.reset

/-! ## Registers -/

/-- R160 to R164, R166, R167: a read of a voice register returns the field and changes nothing; a write replaces the field, of
the level its bits 14:0 alone, and changes nothing else. -/
def Obligations.VoiceRegisters : Prop :=
  ∀ (n : VoiceId) (v : Half) (s : State), NoError s →
    exec (.rd16VolL n) s = .next (returning (.half (s.voice n).volL) s) ∧
    exec (.wr16VolL n v) s = .next ((returning .none s).setVoice n { s.voice n with volL := v }) ∧
    exec (.rd16VolR n) s = .next (returning (.half (s.voice n).volR) s) ∧
    exec (.wr16VolR n v) s = .next ((returning .none s).setVoice n { s.voice n with volR := v }) ∧
    exec (.rd16Pitch n) s = .next (returning (.half (s.voice n).pitch) s) ∧
    exec (.wr16Pitch n v) s = .next ((returning .none s).setVoice n { s.voice n with pitch := v }) ∧
    exec (.rd16Start n) s = .next (returning (.half (s.voice n).startAddr) s) ∧
    exec (.wr16Start n v) s = .next ((returning .none s).setVoice n { s.voice n with startAddr := v }) ∧
    exec (.rd16AdsrLo n) s = .next (returning (.half (s.voice n).adsrLo) s) ∧
    exec (.wr16AdsrLo n v) s = .next ((returning .none s).setVoice n { s.voice n with adsrLo := v }) ∧
    exec (.rd16Env n) s = .next (returning (.half (s.voice n).envLevel) s) ∧
    exec (.wr16Env n v) s = .next ((returning .none s).setVoice n { s.voice n with envLevel := BitVec.ofNat 16 (v.toNat % 0x8000) }) ∧
    exec (.rd16Repeat n) s = .next (returning (.half (s.voice n).repeatAddr) s) ∧
    exec (.wr16Repeat n v) s = .next ((returning .none s).setVoice n { s.voice n with repeatAddr := v })

/-- R165, R125 #3: `ADSR_HI` written with bit 13 clear is stored, with bit 13 set is E3 and nothing is written. -/
def Obligations.AdsrHiRegister : Prop :=
  ∀ (n : VoiceId) (v : Half) (s : State), NoError s →
    exec (.rd16AdsrHi n) s = .next (returning (.half (s.voice n).adsrHi) s) ∧
    (v.getLsbD 13 = false →
      exec (.wr16AdsrHi n v) s = .next ((returning .none s).setVoice n { s.voice n with adsrHi := v })) ∧
    (v.getLsbD 13 = true →
      exec (.wr16AdsrHi n v) s = .next { s with fault := some (.adsrReservedBit n), result := .none } ∧
      (BlockError.adsrReservedBit n).code = 3)

/-- R170, R171, R192 to R195: the main, CD and external volumes are stored whole and read back. -/
def Obligations.VolumeRegisters : Prop :=
  ∀ (v : Half) (s : State), NoError s →
    exec .rd16MvolL s = .next (returning (.half s.g.mainVolL) s) ∧
    exec (.wr16MvolL v) s = .next { s with g := { s.g with mainVolL := v }, result := .none } ∧
    exec .rd16MvolR s = .next (returning (.half s.g.mainVolR) s) ∧
    exec (.wr16MvolR v) s = .next { s with g := { s.g with mainVolR := v }, result := .none } ∧
    exec .rd16CdvolL s = .next (returning (.half s.g.cdVolL) s) ∧
    exec (.wr16CdvolL v) s = .next { s with g := { s.g with cdVolL := v }, result := .none } ∧
    exec .rd16CdvolR s = .next (returning (.half s.g.cdVolR) s) ∧
    exec (.wr16CdvolR v) s = .next { s with g := { s.g with cdVolR := v }, result := .none } ∧
    exec .rd16ExtvolL s = .next (returning (.half s.g.extVolL) s) ∧
    exec (.wr16ExtvolL v) s = .next { s with g := { s.g with extVolL := v }, result := .none } ∧
    exec .rd16ExtvolR s = .next (returning (.half s.g.extVolR) s) ∧
    exec (.wr16ExtvolR v) s = .next { s with g := { s.g with extVolR := v }, result := .none }

/-- R174 to R177: writes of `KON` and `KOFF` accumulate in the pending masks (`v[15:8]` of the high halves is ignored), reads
return the pending halves. -/
def Obligations.KeyRequestRegisters : Prop :=
  ∀ (v : Half) (s : State), NoError s →
    exec .rd16KonLo s = .next (returning (.half (s.g.konPend.setWidth 16)) s) ∧
    exec .rd16KonHi s = .next (returning (.half ((s.g.konPend >>> 16).setWidth 16)) s) ∧
    exec (.wr16KonLo v) s = .next { s with g := { s.g with konPend := s.g.konPend ||| v.setWidth 24 }, result := .none } ∧
    exec (.wr16KonHi v) s =
      .next { s with g := { s.g with konPend := s.g.konPend ||| v.setWidth 24 <<< 16 }, result := .none } ∧
    exec .rd16KoffLo s = .next (returning (.half (s.g.koffPend.setWidth 16)) s) ∧
    exec .rd16KoffHi s = .next (returning (.half ((s.g.koffPend >>> 16).setWidth 16)) s) ∧
    exec (.wr16KoffLo v) s = .next { s with g := { s.g with koffPend := s.g.koffPend ||| v.setWidth 24 }, result := .none } ∧
    exec (.wr16KoffHi v) s =
      .next { s with g := { s.g with koffPend := s.g.koffPend ||| v.setWidth 24 <<< 16 }, result := .none }

/-- R178 to R183: writes of `PMON`, `NON` and `EON` replace the addressed half, reads return it. -/
def Obligations.VoiceMaskRegisters : Prop :=
  ∀ (v : Half) (s : State), NoError s →
    exec .rd16PmonLo s = .next (returning (.half (s.g.pmon.setWidth 16)) s) ∧
    exec .rd16PmonHi s = .next (returning (.half ((s.g.pmon >>> 16).setWidth 16)) s) ∧
    exec (.wr16PmonLo v) s =
      .next { s with g := { s.g with pmon := (s.g.pmon &&& (0xFF0000 : Mask)) ||| v.setWidth 24 }, result := .none } ∧
    exec (.wr16PmonHi v) s =
      .next { s with g := { s.g with pmon := (s.g.pmon &&& (0x00FFFF : Mask)) ||| v.setWidth 24 <<< 16 }, result := .none } ∧
    exec .rd16NonLo s = .next (returning (.half (s.g.non.setWidth 16)) s) ∧
    exec .rd16NonHi s = .next (returning (.half ((s.g.non >>> 16).setWidth 16)) s) ∧
    exec (.wr16NonLo v) s =
      .next { s with g := { s.g with non := (s.g.non &&& (0xFF0000 : Mask)) ||| v.setWidth 24 }, result := .none } ∧
    exec (.wr16NonHi v) s =
      .next { s with g := { s.g with non := (s.g.non &&& (0x00FFFF : Mask)) ||| v.setWidth 24 <<< 16 }, result := .none } ∧
    exec .rd16EonLo s = .next (returning (.half (s.g.eon.setWidth 16)) s) ∧
    exec .rd16EonHi s = .next (returning (.half ((s.g.eon >>> 16).setWidth 16)) s) ∧
    exec (.wr16EonLo v) s =
      .next { s with g := { s.g with eon := (s.g.eon &&& (0xFF0000 : Mask)) ||| v.setWidth 24 }, result := .none } ∧
    exec (.wr16EonHi v) s =
      .next { s with g := { s.g with eon := (s.g.eon &&& (0x00FFFF : Mask)) ||| v.setWidth 24 <<< 16 }, result := .none }

/-- R184, R185, R191, R118: `ENDX` and `SPUSTAT` ignore a write and return the flags, `SPUSTAT` as
`{0[15:7], G.irqFlag, G.spucnt[5:0]}`. -/
def Obligations.ReadOnlyRegisters : Prop :=
  ∀ (v : Half) (s : State), NoError s →
    exec .rd16EndxLo s = .next (returning (.half (s.g.endx.setWidth 16)) s) ∧
    exec .rd16EndxHi s = .next (returning (.half ((s.g.endx >>> 16).setWidth 16)) s) ∧
    exec .rd16Spustat s =
      .next (returning (.half (BitVec.ofNat 16 ((if s.g.irqFlag then 0x40 else 0) + s.g.spucnt.toNat % 0x40))) s) ∧
    exec (.wr16EndxLo v) s = .next (returning .none s) ∧
    exec (.wr16EndxHi v) s = .next (returning .none s) ∧
    exec (.wr16Spustat v) s = .next (returning .none s)

/-- R186 to R188: `MBASE` and `XFER_ADDR` are stored and reload their cursors with eight times the value, `IRQ_ADDR` is stored;
reads return the value last written, not the cursor. -/
def Obligations.AddressRegisters : Prop :=
  ∀ (v : Half) (s : State), NoError s →
    exec .rd16Mbase s = .next (returning (.half s.g.mBASE) s) ∧
    exec .rd16IrqAddr s = .next (returning (.half s.g.irqAddr) s) ∧
    exec .rd16XferAddr s = .next (returning (.half s.g.xferAddr) s) ∧
    exec (.wr16Mbase v) s =
      .next { s with g := { s.g with mBASE := v, revCur := BitVec.ofNat 19 (v.toNat * 8) }, result := .none } ∧
    exec (.wr16IrqAddr v) s = .next { s with g := { s.g with irqAddr := v }, result := .none } ∧
    exec (.wr16XferAddr v) s =
      .next { s with g := { s.g with xferAddr := v, xferCur := BitVec.ofNat 19 (v.toNat * 8) }, result := .none }

/-- R190: the control register. Every write that leaves bit 15 clear forces every voice Off, every write that leaves bit 6 clear
clears the pending interrupt flag, and nothing else changes. -/
def Obligations.ControlRegister : Prop :=
  ∀ (v : Half) (s : State), NoError s →
    exec .rd16Spucnt s = .next (returning (.half s.g.spucnt) s) ∧
    ∃ t, exec (.wr16Spucnt v) s = .next t ∧
      t =
        { s with
          voices := t.voices
          g := { s.g with spucnt := v, irqFlag := if v.getLsbD 6 then s.g.irqFlag else false }
          result := .none } ∧
      ∀ n : VoiceId, t.voice n =
        if v.getLsbD 15 then s.voice n
        else { s.voice n with phase := .off, envLevel := 0, lastSample := 0, adsrWait := 0 }

/-- R189, R438: with transfer mode 2 the port stores one little-endian cell at the cursor, makes the cell check there (the IRQ
address or the cell before it), and advances the cursor by 2 modulo 0x80000. -/
def Obligations.ManualWritePort : Prop :=
  ∀ (v : Half) (s : State), NoError s → Memory.wf s.ram = true → xferMode s.g.spucnt = 2 →
    ∃ t, exec (.wr16XferPort v) s = .next t ∧
      t =
        { s with
          ram := t.ram
          g := { s.g with xferCur := s.g.xferCur + 2, irqFlag := t.g.irqFlag }
          trace := t.trace
          result := .none } ∧
      Stored s.g.xferCur.toNat [loByte v, hiByte v] s t ∧
      Checked
        (s.g.xferCur.toNat = s.g.irqAddr.toNat * 8 ∨ s.g.xferCur.toNat = (s.g.irqAddr.toNat * 8 + 0x7FFFE) % 0x80000)
        (.cell s.g.xferCur) s t

/-- R413, R433: the three ports in any other transfer mode are E2, code 2, as is a word write whose low half reaches the port:
nothing is written, the cursor does not move, no check is made. -/
def Obligations.PortsNeedTransferMode2 : Prop :=
  ∀ (v : Half) (w : Word) (s : State), NoError s → xferMode s.g.spucnt ≠ 2 →
    exec (.wr16XferPort v) s = .next { s with fault := some (.invalidState .manualWrite), result := .none } ∧
    exec .dmaRd s = .next { s with fault := some (.invalidState .dmaRead), result := .none } ∧
    exec (.dmaWr w) s = .next { s with fault := some (.invalidState .dmaWrite), result := .none } ∧
    exec (.wr32 0xDA8 w) s = .next { s with fault := some (.invalidState .manualWrite), result := .none } ∧
    ∀ port : Port, (BlockError.invalidState port).code = 2

/-- R172, R173, R202 to R209, R230, R231: the volume-type reverb registers, stored whole, read back, 0 after reset. -/
def Obligations.ReverbGainRegisters : Prop :=
  ∀ (v : Half) (s : State), NoError s →
    exec .rd16VLOUT s = .next (returning (.half s.rv.vLOUT) s) ∧
    exec (.wr16VLOUT v) s = .next { s with rv := { s.rv with vLOUT := v }, result := .none } ∧
    exec .rd16VROUT s = .next (returning (.half s.rv.vROUT) s) ∧
    exec (.wr16VROUT v) s = .next { s with rv := { s.rv with vROUT := v }, result := .none } ∧
    exec .rd16VIIR s = .next (returning (.half s.rv.vIIR) s) ∧
    exec (.wr16VIIR v) s = .next { s with rv := { s.rv with vIIR := v }, result := .none } ∧
    exec .rd16VCOMB1 s = .next (returning (.half s.rv.vCOMB1) s) ∧
    exec (.wr16VCOMB1 v) s = .next { s with rv := { s.rv with vCOMB1 := v }, result := .none } ∧
    exec .rd16VCOMB2 s = .next (returning (.half s.rv.vCOMB2) s) ∧
    exec (.wr16VCOMB2 v) s = .next { s with rv := { s.rv with vCOMB2 := v }, result := .none } ∧
    exec .rd16VCOMB3 s = .next (returning (.half s.rv.vCOMB3) s) ∧
    exec (.wr16VCOMB3 v) s = .next { s with rv := { s.rv with vCOMB3 := v }, result := .none } ∧
    exec .rd16VCOMB4 s = .next (returning (.half s.rv.vCOMB4) s) ∧
    exec (.wr16VCOMB4 v) s = .next { s with rv := { s.rv with vCOMB4 := v }, result := .none } ∧
    exec .rd16VWALL s = .next (returning (.half s.rv.vWALL) s) ∧
    exec (.wr16VWALL v) s = .next { s with rv := { s.rv with vWALL := v }, result := .none } ∧
    exec .rd16VAPF1 s = .next (returning (.half s.rv.vAPF1) s) ∧
    exec (.wr16VAPF1 v) s = .next { s with rv := { s.rv with vAPF1 := v }, result := .none } ∧
    exec .rd16VAPF2 s = .next (returning (.half s.rv.vAPF2) s) ∧
    exec (.wr16VAPF2 v) s = .next { s with rv := { s.rv with vAPF2 := v }, result := .none } ∧
    exec .rd16VLIN s = .next (returning (.half s.rv.vLIN) s) ∧
    exec (.wr16VLIN v) s = .next { s with rv := { s.rv with vLIN := v }, result := .none } ∧
    exec .rd16VRIN s = .next (returning (.half s.rv.vRIN) s) ∧
    exec (.wr16VRIN v) s = .next { s with rv := { s.rv with vRIN := v }, result := .none } ∧
    State.reset.rv = ReverbRegs.reset ∧
    ReverbRegs.reset.vLOUT = 0 ∧
    ReverbRegs.reset.vROUT = 0 ∧
    ReverbRegs.reset.vIIR = 0 ∧
    ReverbRegs.reset.vCOMB1 = 0 ∧
    ReverbRegs.reset.vCOMB2 = 0 ∧
    ReverbRegs.reset.vCOMB3 = 0 ∧
    ReverbRegs.reset.vCOMB4 = 0 ∧
    ReverbRegs.reset.vWALL = 0 ∧
    ReverbRegs.reset.vAPF1 = 0 ∧
    ReverbRegs.reset.vAPF2 = 0 ∧
    ReverbRegs.reset.vLIN = 0 ∧
    ReverbRegs.reset.vRIN = 0

/-- R200, R201, R210 to R219: address-type reverb registers, stored whole, read back, 0 after reset. -/
def Obligations.ReverbFirstTapRegisters : Prop :=
  ∀ (v : Half) (s : State), NoError s →
    exec .rd16DAPF1 s = .next (returning (.half s.rv.dAPF1) s) ∧
    exec (.wr16DAPF1 v) s = .next { s with rv := { s.rv with dAPF1 := v }, result := .none } ∧
    exec .rd16DAPF2 s = .next (returning (.half s.rv.dAPF2) s) ∧
    exec (.wr16DAPF2 v) s = .next { s with rv := { s.rv with dAPF2 := v }, result := .none } ∧
    exec .rd16MLSAME s = .next (returning (.half s.rv.mLSAME) s) ∧
    exec (.wr16MLSAME v) s = .next { s with rv := { s.rv with mLSAME := v }, result := .none } ∧
    exec .rd16MRSAME s = .next (returning (.half s.rv.mRSAME) s) ∧
    exec (.wr16MRSAME v) s = .next { s with rv := { s.rv with mRSAME := v }, result := .none } ∧
    exec .rd16MLCOMB1 s = .next (returning (.half s.rv.mLCOMB1) s) ∧
    exec (.wr16MLCOMB1 v) s = .next { s with rv := { s.rv with mLCOMB1 := v }, result := .none } ∧
    exec .rd16MRCOMB1 s = .next (returning (.half s.rv.mRCOMB1) s) ∧
    exec (.wr16MRCOMB1 v) s = .next { s with rv := { s.rv with mRCOMB1 := v }, result := .none } ∧
    exec .rd16MLCOMB2 s = .next (returning (.half s.rv.mLCOMB2) s) ∧
    exec (.wr16MLCOMB2 v) s = .next { s with rv := { s.rv with mLCOMB2 := v }, result := .none } ∧
    exec .rd16MRCOMB2 s = .next (returning (.half s.rv.mRCOMB2) s) ∧
    exec (.wr16MRCOMB2 v) s = .next { s with rv := { s.rv with mRCOMB2 := v }, result := .none } ∧
    exec .rd16DLSAME s = .next (returning (.half s.rv.dLSAME) s) ∧
    exec (.wr16DLSAME v) s = .next { s with rv := { s.rv with dLSAME := v }, result := .none } ∧
    exec .rd16DRSAME s = .next (returning (.half s.rv.dRSAME) s) ∧
    exec (.wr16DRSAME v) s = .next { s with rv := { s.rv with dRSAME := v }, result := .none } ∧
    exec .rd16MLDIFF s = .next (returning (.half s.rv.mLDIFF) s) ∧
    exec (.wr16MLDIFF v) s = .next { s with rv := { s.rv with mLDIFF := v }, result := .none } ∧
    exec .rd16MRDIFF s = .next (returning (.half s.rv.mRDIFF) s) ∧
    exec (.wr16MRDIFF v) s = .next { s with rv := { s.rv with mRDIFF := v }, result := .none } ∧
    State.reset.rv = ReverbRegs.reset ∧
    ReverbRegs.reset.dAPF1 = 0 ∧
    ReverbRegs.reset.dAPF2 = 0 ∧
    ReverbRegs.reset.mLSAME = 0 ∧
    ReverbRegs.reset.mRSAME = 0 ∧
    ReverbRegs.reset.mLCOMB1 = 0 ∧
    ReverbRegs.reset.mRCOMB1 = 0 ∧
    ReverbRegs.reset.mLCOMB2 = 0 ∧
    ReverbRegs.reset.mRCOMB2 = 0 ∧
    ReverbRegs.reset.dLSAME = 0 ∧
    ReverbRegs.reset.dRSAME = 0 ∧
    ReverbRegs.reset.mLDIFF = 0 ∧
    ReverbRegs.reset.mRDIFF = 0

/-- R220 to R229: the other address-type reverb registers, stored whole, read back, 0 after reset. -/
def Obligations.ReverbLaterTapRegisters : Prop :=
  ∀ (v : Half) (s : State), NoError s →
    exec .rd16MLCOMB3 s = .next (returning (.half s.rv.mLCOMB3) s) ∧
    exec (.wr16MLCOMB3 v) s = .next { s with rv := { s.rv with mLCOMB3 := v }, result := .none } ∧
    exec .rd16MRCOMB3 s = .next (returning (.half s.rv.mRCOMB3) s) ∧
    exec (.wr16MRCOMB3 v) s = .next { s with rv := { s.rv with mRCOMB3 := v }, result := .none } ∧
    exec .rd16MLCOMB4 s = .next (returning (.half s.rv.mLCOMB4) s) ∧
    exec (.wr16MLCOMB4 v) s = .next { s with rv := { s.rv with mLCOMB4 := v }, result := .none } ∧
    exec .rd16MRCOMB4 s = .next (returning (.half s.rv.mRCOMB4) s) ∧
    exec (.wr16MRCOMB4 v) s = .next { s with rv := { s.rv with mRCOMB4 := v }, result := .none } ∧
    exec .rd16DLDIFF s = .next (returning (.half s.rv.dLDIFF) s) ∧
    exec (.wr16DLDIFF v) s = .next { s with rv := { s.rv with dLDIFF := v }, result := .none } ∧
    exec .rd16DRDIFF s = .next (returning (.half s.rv.dRDIFF) s) ∧
    exec (.wr16DRDIFF v) s = .next { s with rv := { s.rv with dRDIFF := v }, result := .none } ∧
    exec .rd16MLAPF1 s = .next (returning (.half s.rv.mLAPF1) s) ∧
    exec (.wr16MLAPF1 v) s = .next { s with rv := { s.rv with mLAPF1 := v }, result := .none } ∧
    exec .rd16MRAPF1 s = .next (returning (.half s.rv.mRAPF1) s) ∧
    exec (.wr16MRAPF1 v) s = .next { s with rv := { s.rv with mRAPF1 := v }, result := .none } ∧
    exec .rd16MLAPF2 s = .next (returning (.half s.rv.mLAPF2) s) ∧
    exec (.wr16MLAPF2 v) s = .next { s with rv := { s.rv with mLAPF2 := v }, result := .none } ∧
    exec .rd16MRAPF2 s = .next (returning (.half s.rv.mRAPF2) s) ∧
    exec (.wr16MRAPF2 v) s = .next { s with rv := { s.rv with mRAPF2 := v }, result := .none } ∧
    State.reset.rv = ReverbRegs.reset ∧
    ReverbRegs.reset.mLCOMB3 = 0 ∧
    ReverbRegs.reset.mRCOMB3 = 0 ∧
    ReverbRegs.reset.mLCOMB4 = 0 ∧
    ReverbRegs.reset.mRCOMB4 = 0 ∧
    ReverbRegs.reset.dLDIFF = 0 ∧
    ReverbRegs.reset.dRDIFF = 0 ∧
    ReverbRegs.reset.mLAPF1 = 0 ∧
    ReverbRegs.reset.mRAPF1 = 0 ∧
    ReverbRegs.reset.mLAPF2 = 0 ∧
    ReverbRegs.reset.mRAPF2 = 0

/-- R154 to R156, R126, R189: what every access to an offset with no register does, in whichever mode the session is: E1 in strict
mode; in lenient mode it is logged, a read returns 0 and a write is discarded. That it is so at offsets outside the window, which
R112 says are never presented, is the model's choice (log 9). -/
def Obligations.UnrecognisedAccesses : Prop :=
  ∀ (off : Offset) (v : Half) (b : Byte) (s : State), NoError s →
    exec .rd16UnrecDA0 s = .next (Unrecognised .rd16 0xDA0 (.half 0) s) ∧
    exec .rd16UnrecDAC s = .next (Unrecognised .rd16 0xDAC (.half 0) s) ∧
    exec .rd16UnrecDB8 s = .next (Unrecognised .rd16 0xDB8 (.half 0) s) ∧
    exec .rd16UnrecDBA s = .next (Unrecognised .rd16 0xDBA (.half 0) s) ∧
    exec .rd16UnrecDBC s = .next (Unrecognised .rd16 0xDBC (.half 0) s) ∧
    exec .rd16UnrecDBE s = .next (Unrecognised .rd16 0xDBE (.half 0) s) ∧
    exec (.rd16UnrecE00 off) s = .next (Unrecognised .rd16 off (.half 0) s) ∧
    exec (.rd16Misaligned off) s = .next (Unrecognised .rd16 off (.half 0) s) ∧
    exec .rd16XferPort s = .next (Unrecognised .rd16 0xDA8 (.half 0) s) ∧
    exec (.wr16UnrecDA0 v) s = .next (Unrecognised .wr16 0xDA0 .none s) ∧
    exec (.wr16UnrecDAC v) s = .next (Unrecognised .wr16 0xDAC .none s) ∧
    exec (.wr16UnrecDB8 v) s = .next (Unrecognised .wr16 0xDB8 .none s) ∧
    exec (.wr16UnrecDBA v) s = .next (Unrecognised .wr16 0xDBA .none s) ∧
    exec (.wr16UnrecDBC v) s = .next (Unrecognised .wr16 0xDBC .none s) ∧
    exec (.wr16UnrecDBE v) s = .next (Unrecognised .wr16 0xDBE .none s) ∧
    exec (.wr16UnrecE00 off v) s = .next (Unrecognised .wr16 off .none s) ∧
    exec (.wr16Misaligned off v) s = .next (Unrecognised .wr16 off .none s) ∧
    exec (.wr8 off b) s = .next (Unrecognised .wr8 off .none s) ∧
    ∀ (kind : AccessKind) (o : Offset), (BlockError.unimplementedRegister kind o).code = 1

/-- R151, R152: `RD8` and `RD32` are composed from half-word reads and change nothing; with an unrecognised half, and `RD32` at an
offset that is no multiple of 4, they are the unimplemented-register condition of their own kind and offset. That offsets outside
the window, which R112 says are never presented, hold no register is the model's choice (log 9). -/
def Obligations.SizedReads : Prop :=
  ∀ (off : Offset) (s : State), NoError s →
    (∀ w, readAt s off = some w ↔
      ∃ r, regAt off = some r ∧ exec (rd16Of r) s = .next (returning (.half w) s)) ∧
    (∀ w, readAt s (off &&& 0xFFE) = some w →
      exec (.rd8 off) s = .next (returning (.byte (if off.getLsbD 0 then hiByte w else loByte w)) s)) ∧
    (readAt s (off &&& 0xFFE) = none → exec (.rd8 off) s = .next (Unrecognised .rd8 off (.byte 0) s)) ∧
    (∀ lo hi, off.toNat % 4 = 0 → readAt s off = some lo → readAt s (off + 2) = some hi →
      exec (.rd32 off) s = .next (returning (.word (hi ++ lo)) s)) ∧
    (off.toNat % 4 ≠ 0 ∨ readAt s off = none ∨ readAt s (off + 2) = none →
      exec (.rd32 off) s = .next (Unrecognised .rd32 off (.word 0) s))

/-- R153: `WR32` is the half-word write of the low half at `off` and then of the high half at `off + 2`, the second not performed
if the first faults; nothing is written at an offset that is no multiple of 4 or with an unrecognised half. That offsets outside
the window, which R112 says are never presented, hold no register is the model's choice (log 9). -/
def Obligations.SizedWrite : Prop :=
  ∀ (off : Offset) (w : Word) (s : State), NoError s →
    (∀ r0 r1, off.toNat % 4 = 0 → regAt off = some r0 → regAt (off + 2) = some r1 →
      ∃ t u, exec (wr16Of r0 (w.extractLsb' 0 16)) s = .next t ∧ exec (wr16Of r1 (w.extractLsb' 16 16)) t = .next u ∧
        exec (.wr32 off w) s = .next (if t.fault.isSome then t else u)) ∧
    (off.toNat % 4 ≠ 0 ∨ regAt off = none ∨ regAt (off + 2) = none →
      exec (.wr32 off w) s = .next (Unrecognised .wr32 off .none s))

/-! ## The DMA bridge, the CD queue -/

/-- R410, R412, R414: with transfer mode 2 a DMA word is stored little-endian at the cursor, the check with the four bytes at the
old cursor, and the cursor advances by 4 modulo 0x80000. -/
def Obligations.DmaWriteWord : Prop :=
  ∀ (w : Word) (s : State), NoError s → Memory.wf s.ram = true → xferMode s.g.spucnt = 2 →
    ∃ t, exec (.dmaWr w) s = .next t ∧
      t =
        { s with
          ram := t.ram
          g := { s.g with xferCur := s.g.xferCur + 4, irqFlag := t.g.irqFlag }
          trace := t.trace
          result := .none } ∧
      Stored s.g.xferCur.toNat [w.extractLsb' 0 8, w.extractLsb' 8 8, w.extractLsb' 16 8, w.extractLsb' 24 8] s t ∧
      Checked (∃ k, k < 4 ∧ (s.g.xferCur.toNat + k) % 0x80000 = s.g.irqAddr.toNat * 8) .dma s t

/-- R411, R412, R414: with transfer mode 2 a DMA read returns the four bytes at the cursor, lowest first; Sound RAM is unchanged,
the check is that of a write, and the cursor advances by 4 modulo 0x80000. -/
def Obligations.DmaReadWord : Prop :=
  ∀ s : State, NoError s → xferMode s.g.spucnt = 2 →
    ∃ t, exec .dmaRd s = .next t ∧
      t =
        { s with
          g := { s.g with xferCur := s.g.xferCur + 4, irqFlag := t.g.irqFlag }
          trace := t.trace
          result := .word
            (memRead1 s (s.g.xferCur.toNat + 3) ++ memRead1 s (s.g.xferCur.toNat + 2) ++
              memRead1 s (s.g.xferCur.toNat + 1) ++ memRead1 s s.g.xferCur.toNat) } ∧
      Checked (∃ k, k < 4 ∧ (s.g.xferCur.toNat + k) % 0x80000 = s.g.irqAddr.toNat * 8) .dma s t

/-- R411's round trip, R84: a word written by `DMA_WR`, and a value written through the port, at the address in `XFER_ADDR` is
what `DMA_RD` returns after `XFER_ADDR` is written again, the port's value in the low half. -/
def Obligations.TransferRoundTrip : Prop :=
  ∀ (a v : Half) (w : Word) (s s1 s2 s3 s4 : State), NoError s → Memory.wf s.ram = true → xferMode s.g.spucnt = 2 →
    exec (.wr16XferAddr a) s = .next s1 →
    (exec (.dmaWr w) s1 = .next s2 → exec (.wr16XferAddr a) s2 = .next s3 → exec .dmaRd s3 = .next s4 →
      s4.result = .word w) ∧
    (exec (.wr16XferPort v) s1 = .next s2 → exec (.wr16XferAddr a) s2 = .next s3 → exec .dmaRd s3 = .next s4 →
      ∃ hi : Half, s4.result = .word (hi ++ v))

/-- R353: `CD_PUSH` appends the pair at the tail of the queue; nothing else changes. -/
def Obligations.CdPushAppends : Prop :=
  ∀ (l r : Half) (s : State), NoError s →
    exec (.cdPush l r) s = .next { s with cdq := s.cdq ++ [(l, r)], result := .none }

/-! ## The tick -/

/-- R340: below 0x300 a `TICK` only counts; with the master enable clear it only keeps the remainder; with it set, the first
crossing is a mix step with the counter reduced by 0x300, after which the `TICK` goes on, or ends if the mix step faulted. -/
def Obligations.TickByCrossings : Prop :=
  ∀ (c : Nat) (s : State), NoError s →
    (s.g.cycleCount + c < 0x300 →
      exec (.tick c) s = .next { s with g := { s.g with cycleCount := s.g.cycleCount + c }, result := .none }) ∧
    (s.g.spucnt.getLsbD 15 = false →
      exec (.tick c) s = .next { s with g := { s.g with cycleCount := (s.g.cycleCount + c) % 0x300 }, result := .none }) ∧
    (s.g.spucnt.getLsbD 15 = true → 0x300 ≤ s.g.cycleCount + c →
      ∃ m t, exec .intMixStep { s with g := { s.g with cycleCount := s.g.cycleCount + c - 0x300 } } = .next m ∧
        exec (.tick c) s = .next t ∧
        if m.fault.isSome then t = m else exec (.tick 0) m = .next t)

/-- R340, R347, R348, R351, R344: a `TICK` of an enabled block that does not fault performs one mix step for each 0x300 of the old
count and the new cycles: the remainder is kept, the capture offset advances by 2, the reverb phase toggles, at most one CD pair
is consumed and exactly four bytes of output are produced in each. -/
def Obligations.TickCountsMixSteps : Prop :=
  ∀ (c : Nat) (s t : State), NoError s → s.g.spucnt.getLsbD 15 = true → exec (.tick c) s = .next t → NoError t →
    let k := (s.g.cycleCount + c) / 0x300
    t.g.cycleCount = (s.g.cycleCount + c) % 0x300 ∧
    t.g.capOffset.toNat = (s.g.capOffset.toNat + 2 * k) % 0x400 ∧
    t.g.revPhase = (s.g.revPhase ^^ decide (k % 2 = 1)) ∧
    t.cdq = s.cdq.drop k ∧
    t.out.length + sunkBytes t.trace = s.out.length + sunkBytes s.trace + 4 * k

/-- R340 "carry-preserving, no drift": cycles split over two `TICK`s, the first of which does not fault, do what one does. -/
def Obligations.TickSplitsFreely : Prop :=
  ∀ (a b : Nat) (s s1 : State), NoError s → exec (.tick a) s = .next s1 → NoError s1 →
    exec (.tick b) s1 = exec (.tick (a + b)) s

/-! ## Voices -/

/-- R271, R272: key on and key off of one voice, each with everything it leaves alone. -/
def Obligations.KeyOnAndKeyOff : Prop :=
  ∀ (n : VoiceId) (s : State), NoError s →
    exec (.intKeyOn n) s =
      .next (State.setVoice
        { s with g := { s.g with endx := s.g.endx &&& ~~~((1 : Mask) <<< n.val) }, result := .none } n
        { s.voice n with
          cur := BitVec.ofNat 19 ((s.voice n).startAddr.toNat * 8)
          pcount := 0
          buf := Vector.replicate 28 0
          hist := Vector.replicate 3 0
          blkFlags := 0
          isLoaded := false
          envLevel := 0
          adsrWait := 0
          phase := .attack }) ∧
    exec (.intKeyOff n) s =
      .next (if (s.voice n).phase = .off then returning .none s
        else (returning .none s).setVoice n { s.voice n with phase := .release, adsrWait := 0 })

/-- R342: the key latch applies all pending key-ons, then all pending key-offs, and clears both masks. -/
def Obligations.KeyLatchAppliesBothMasks : Prop :=
  ∀ s : State, NoError s →
    ∃ t, exec .intKeyLatch s = .next t ∧
      t =
        { s with
          voices := t.voices
          g := { s.g with konPend := 0, koffPend := 0, endx := s.g.endx &&& ~~~s.g.konPend }
          result := .none } ∧
      ∀ n : VoiceId,
        let v : Voice :=
          if s.g.konPend.getLsbD n.val then
            { s.voice n with
              cur := BitVec.ofNat 19 ((s.voice n).startAddr.toNat * 8)
              pcount := 0
              buf := Vector.replicate 28 0
              hist := Vector.replicate 3 0
              blkFlags := 0
              isLoaded := false
              envLevel := 0
              adsrWait := 0
              phase := .attack }
          else s.voice n
        t.voice n =
          if s.g.koffPend.getLsbD n.val = true ∧ v.phase ≠ .off then { v with phase := .release, adsrWait := 0 } else v

/-- R274 to R278, R121 to R124: a decode with an accepted header. `Sample(n, k)` of R280 reads the new block, so the predictor's
`old` and `older` of sample `i` are samples `i - 1` and `i - 2`; the table of R275, which the spec has from general knowledge
(log 14), is written out. -/
def Obligations.DecodeBlockSamples : Prop :=
  ∀ (n : VoiceId) (s : State), NoError s →
    let v := s.voice n
    let hdr := memRead1 s v.cur.toNat
    let flg := memRead1 s (v.cur.toNat + 1)
    let f := hdr.toNat / 0x10 % 4
    let f0 : Int := [0, 60, 115, 98].getD f 0
    let f1 : Int := [0, 0, -52, -55].getD f 0
    hdr.getLsbD 6 = false → hdr.toNat % 0x10 ≤ 12 →
    ∃ t v', exec (.intDecodeBlock n) s = .next t ∧ t.voice n = v' ∧
      t =
        State.setVoice { s with g := { s.g with irqFlag := t.g.irqFlag }, trace := t.trace, result := .none } n
          { v with
            hist := #v[v.buf[25], v.buf[26], v.buf[27]]
            buf := v'.buf
            blkFlags := flg
            repeatAddr := if flg.getLsbD 2 then BitVec.ofNat 16 (v.cur.toNat / 8) else v.repeatAddr
            isLoaded := true } ∧
      (∀ i : Fin 28,
        let byte := memRead1 s (v.cur.toNat + 2 + i.val / 2)
        let nib : Int := (if i.val % 2 = 0 then byte.extractLsb' 0 4 else byte.extractLsb' 4 4).toInt
        sampleAt Config.params v' i.val =
          sat16 (nib * 0x1000 / 2 ^ (hdr.toNat % 0x10) +
            (sampleAt Config.params v' (i.val - 1) * f0 + sampleAt Config.params v' (i.val - 2) * f1 + 32) / 0x40)) ∧
      Checked (∃ k, k < 16 ∧ (v.cur.toNat + k) % 0x80000 = s.g.irqAddr.toNat * 8) (.voiceFetch n) s t

/-- R279, R125 #1 and #2, R434: a decode of a reserved header is E3, code 3, before any voice state is written; bit 6 is tested
first (R274). -/
def Obligations.DecodeBlockReservedHeader : Prop :=
  ∀ (n : VoiceId) (s : State), NoError s →
    let block := (s.voice n).cur
    let hdr := memRead1 s block.toNat
    (hdr.getLsbD 6 = true →
      exec (.intDecodeBlock n) s = .next { s with fault := some (.adpcmHeaderBit6 n block), result := .none }) ∧
    (hdr.getLsbD 6 = false → 12 < hdr.toNat % 0x10 →
      exec (.intDecodeBlock n) s = .next { s with fault := some (.adpcmShift n block), result := .none }) ∧
    (BlockError.adpcmHeaderBit6 n block).code = 3 ∧ (BlockError.adpcmShift n block).code = 3

/-- R280, R281: the interpolator weights the sample at the index and the three before it, the ones before the block from the
history; nothing is assumed of the kernel (R282). -/
def Obligations.InterpolateFourPoints : Prop :=
  ∀ (n : VoiceId) (s : State), NoError s → (s.voice n).pcount.toNat < 0x1C000 →
    let v := s.voice n
    let points := v.hist.toList ++ v.buf.toList
    let idx := v.pcount.toNat / 0x1000
    let c := Config.interp (BitVec.ofNat 12 v.pcount.toNat)
    exec (.intInterpolate n) s =
      .next (returning
        (.int (sat16
          ((s16 c.c0 * s16 (points.getD idx 0) + s16 c.c1 * s16 (points.getD (idx + 1) 0) +
            s16 c.c2 * s16 (points.getD (idx + 2) 0) + s16 c.c3 * s16 (points.getD (idx + 3) 0)) / 2 ^ 15))) s)

/-- R284, R285: the raw step is `PITCH[13:0]`; with the voice's `PMON` bit set and a voice before it, it is scaled by that voice's
last sample; the step is capped at 0x4000. -/
def Obligations.EffectiveStepModulation : Prop :=
  ∀ (n : VoiceId) (s : State), NoError s →
    let raw : Int := ((s.voice n).pitch.toNat % 0x4000 : Nat)
    (n.val = 0 ∨ s.g.pmon.getLsbD n.val = false → exec (.intEffectiveStep n) s = .next (returning (.int raw) s)) ∧
    (∀ before : VoiceId, before.val + 1 = n.val → s.g.pmon.getLsbD n.val = true →
      exec (.intEffectiveStep n) s =
        .next (returning (.int (min 0x4000 (raw * ((s.voice before).lastSample.toInt + 0x8000) / 2 ^ 15))) s))

/-- R286 to R288: the counter accumulates the step; at 28 samples the block is left (28 samples are subtracted, the cursor moves 16
bytes, the decode is dropped), and a block with the end flag sets ENDX and jumps to the repeat address or forces the voice Off. That the forced Off zeroes the
wait counter is R312's "every phase transition", which R288's lines leave out (log 18). -/
def Obligations.PitchAdvanceAndLoop : Prop :=
  ∀ (n : VoiceId) (step : BitVec 15) (s : State), NoError s → (s.voice n).pcount.toNat < 0x1C000 → step.toNat ≤ 0x4000 →
    let v := s.voice n
    let sum := v.pcount.toNat + step.toNat
    let left : Voice := { v with pcount := BitVec.ofNat 17 (sum - 0x1C000), cur := v.cur + 16, isLoaded := false }
    let s0 := returning .none s
    let ended : State := { s0 with g := { s.g with endx := s.g.endx ||| (1 : Mask) <<< n.val } }
    exec (.intPitchAdvance n step) s =
      .next (if sum < 0x1C000 then s0.setVoice n { v with pcount := BitVec.ofNat 17 sum }
        else if v.blkFlags.getLsbD 0 = false then s0.setVoice n left
        else if v.blkFlags.getLsbD 1 then ended.setVoice n { left with cur := BitVec.ofNat 19 (v.repeatAddr.toNat * 8) }
        else ended.setVoice n { left with phase := .off, envLevel := 0, adsrWait := 0 })

/-- R310 to R319, R321: one call of the envelope generator, phase by phase; Sustain has no exit of its own. The rate law and the
targets are the spec's general knowledge (log 14). -/
def Obligations.AdsrTickByPhase : Prop :=
  ∀ (n : VoiceId) (s : State), NoError s →
    let v := s.voice n
    let lo := v.adsrLo.toNat
    let hi := v.adsrHi.toNat
    let level : Int := v.envLevel.toInt
    let clamped (step : Int) : Int := max 0 (min 0x7FFF (level + step))
    let becomes (v' : Voice) : Prop := exec (.intAdsrTick n) s = .next ((returning .none s).setVoice n v')
    (v.phase = .off → becomes { v with envLevel := 0 }) ∧
    (v.phase ≠ .off → 0 < v.adsrWait → becomes { v with adsrWait := v.adsrWait - 1 }) ∧
    (v.phase = .attack → v.adsrWait = 0 →
      let shift := lo / 0x400 % 0x20
      let full : Int := (7 - (lo / 0x100 % 4 : Nat)) * 2 ^ (11 - shift)
      let x := clamped (if lo / 0x8000 = 1 ∧ 0x6000 < level then full / 4 else full)
      becomes
        (if 0x7FFF ≤ x then { v with envLevel := u16 x, phase := .decay, adsrWait := 0 }
          else { v with envLevel := u16 x, adsrWait := 2 ^ (shift - 11) - 1 })) ∧
    (v.phase = .decay → v.adsrWait = 0 →
      let shift := lo / 0x10 % 0x10
      let x := clamped (-8 * 2 ^ (11 - shift) * level / 2 ^ 15)
      becomes
        (if x ≤ ((lo % 0x10 + 1) * 0x800 : Nat) then { v with envLevel := u16 x, phase := .sustain, adsrWait := 0 }
          else { v with envLevel := u16 x, adsrWait := 2 ^ (shift - 11) - 1 })) ∧
    (v.phase = .sustain → v.adsrWait = 0 →
      let shift := hi / 0x100 % 0x20
      let field : Int := (hi / 0x40 % 4 : Nat)
      let full : Int := (if hi / 0x4000 % 2 = 1 then -8 + field else 7 - field) * 2 ^ (11 - shift)
      let x := clamped
        (if hi / 0x8000 = 0 then full
          else if hi / 0x4000 % 2 = 1 then full * level / 2 ^ 15
          else if 0x6000 < level then full / 4
          else full)
      becomes { v with envLevel := u16 x, adsrWait := 2 ^ (shift - 11) - 1 }) ∧
    (v.phase = .release → v.adsrWait = 0 →
      let shift := hi % 0x20
      let x := clamped (-8 * 2 ^ (11 - shift) * level / 2 ^ 15)
      becomes
        (if x ≤ 0 then { v with envLevel := 0, phase := .off, adsrWait := 0 }
          else { v with envLevel := u16 x, adsrWait := 2 ^ (shift - 11) - 1 }))

/-- R315, R317, R312: a voice in Release with its level in range goes Off after finitely many calls of the generator: at most one
level update for each unit of level, and at most 2^20 calls for each update. -/
def Obligations.ReleaseReachesOff : Prop :=
  ∀ (n : VoiceId) (s : State), NoError s → VoiceOk (s.voice n) → (s.voice n).phase = .release →
    ∃ k, k ≤ ((s.voice n).envLevel.toNat + 1) * 2 ^ 20 ∧ ((adsrTicks n k s).voice n).phase = .off

/-- R291: the voice step of an Off voice zeroes its last sample and level, contributes (0, 0), and does nothing else. -/
def Obligations.VoiceStepWhenOff : Prop :=
  ∀ (n : VoiceId) (s : State), NoError s → (s.voice n).phase = .off →
    exec (.intVoiceStep n) s =
      .next ((returning (.pair 0 0) s).setVoice n { s.voice n with lastSample := 0, envLevel := 0 })

/-- R270, R273, R283, R289, R290: the voice step of a voice that is not Off is its eight parts in order, each as its own
micro-operation does it; a noise-enabled voice takes the next value of the noise stream (log 7), whatever it is. -/
def Obligations.VoiceStepParts : Prop :=
  ∀ (n : VoiceId) (s : State), NoError s → (s.voice n).phase ≠ .off →
    ((s.voice n).isLoaded = false → LegalHeader (memRead1 s (s.voice n).cur.toNat)) →
    ∃ (d d' a e : State) (raw : Int) (step : BitVec 15),
      (if (s.voice n).isLoaded then d = returning .none s else exec (.intDecodeBlock n) s = .next d) ∧
      (if s.g.non.getLsbD n.val then raw = s16 (Config.noise s.draws) ∧ d' = { d with draws := s.draws + 1 }
        else exec (.intInterpolate n) d = .next (returning (.int raw) d) ∧ d' = d) ∧
      exec (.intEffectiveStep n) d' = .next (returning (.int step.toNat) d') ∧
      exec (.intPitchAdvance n step) d' = .next a ∧
      exec (.intAdsrTick n) a = .next e ∧
      let out := sat16 (raw * (a.voice n).envLevel.toInt / 2 ^ 15)
      let cL := out * (e.voice n).volL.toInt / 2 ^ 15
      let cR := out * (e.voice n).volR.toInt / 2 ^ 15
      exec (.intVoiceStep n) s =
        .next ((returning (.pair cL cR) e).setVoice n { e.voice n with lastSample := u16 out })

/-- R320, R319: which transactions and micro-operations change a voice's phase, and to what. A mix step, and the `TICK` that runs
it, may make any of the transitions of its parts. -/
def Obligations.PhaseTransitions : Prop :=
  ∀ (i : Instr) (s t : State) (n : VoiceId), exec i s = .next t → (t.voice n).phase ≠ (s.voice n).phase →
    let p := (s.voice n).phase
    let q := (t.voice n).phase
    match i with
    | .wr16Spucnt v => v.getLsbD 15 = false ∧ q = .off
    | .wr32 off w => off = 0xDA8 ∧ w.getLsbD 31 = false ∧ q = .off
    | .reset => q = .off
    | .intKeyOn m => m = n ∧ q = .attack
    | .intKeyOff m => m = n ∧ p ≠ .off ∧ q = .release
    | .intKeyLatch => q = .attack ∨ q = .release
    | .intPitchAdvance m _ => m = n ∧ q = .off
    | .intAdsrTick m => m = n ∧ (p = .attack ∧ q = .decay ∨ p = .decay ∧ q = .sustain ∨ p = .release ∧ q = .off)
    | .intVoiceStep m => m = n ∧ (p = .attack ∧ q = .decay ∨ p = .decay ∧ q = .sustain ∨ p ≠ .off ∧ q = .off)
    | .intMixStep => True
    | .tick _ => True
    | _ => False

/-! ## The mix step -/

/-- R346, R347: the four cells of a capture write, at the old offset in the four windows; every other byte as before, and the
offset advances by 2 modulo 0x400. -/
def Obligations.CaptureWriteCells : Prop :=
  ∀ (cl cr : Half) (s : State), NoError s → Memory.wf s.ram = true →
    let o := s.g.capOffset.toNat
    ∃ t, exec (.intCaptureWrite cl cr) s = .next t ∧
      t = { s with ram := t.ram, g := { s.g with capOffset := t.g.capOffset }, result := .none } ∧
      t.g.capOffset.toNat = (o + 2) % 0x400 ∧
      memRead2 t (0x000 + o) = cl ∧ memRead2 t (0x400 + o) = cr ∧
      memRead2 t (0x800 + o) = (s.voice 1).lastSample ∧ memRead2 t (0xC00 + o) = (s.voice 3).lastSample ∧
      ∀ x, x < 0x80000 → (∀ window ∈ [0x000, 0x400, 0x800, 0xC00], x ≠ window + o ∧ x ≠ window + o + 1) →
        memRead1 t x = memRead1 s x

/-- R349, R350: each sum is clamped, scaled by its main volume and clamped again; with bit 14 of `SPUCNT` clear both outputs
are 0. -/
def Obligations.FinalMixClampsAndMutes : Prop :=
  ∀ (dryL dryR : BitVec 21) (s : State), NoError s →
    exec (.intFinalMix dryL dryR) s =
      .next (returning
        (if s.g.spucnt.getLsbD 14 then
          .pair (sat16 (sat16 dryL.toInt * s.g.mainVolL.toInt / 2 ^ 15)) (sat16 (sat16 dryR.toInt * s.g.mainVolR.toInt / 2 ^ 15))
        else .pair 0 0) s)

/-- R351, R352: four bytes, left first and low byte first, are appended; when 2048 have accumulated they go to the sink and the
buffer is empty. -/
def Obligations.OutputAppendAndFlush : Prop :=
  ∀ (l r : Half) (s : State), NoError s →
    let bytes := s.out ++ [l.extractLsb' 0 8, l.extractLsb' 8 8, r.extractLsb' 0 8, r.extractLsb' 8 8]
    exec (.intOutputAppend l r) s =
      .next (if bytes.length = 2048 then { s with out := [], trace := s.trace ++ [.sinkAppend bytes], result := .none }
        else { s with out := bytes, result := .none })

/-- R341, R279, R430: a mix step of an unfaulted block completes exactly when every block it has to decode has an accepted header; an
`INT MixStep` is a next state in either case. One that does not complete leaves what the key latch and the voice steps of the voices
before the failing one left, with that voice's E3 recorded: nothing is rolled back, and no later part is performed. -/
def Obligations.MixStepCompletesExactly : Prop :=
  ∀ s : State, NoError s →
    (∃ t, exec .intMixStep s = .next t ∧ (NoError t ↔ HeadersReady s)) ∧
    (¬ HeadersReady s →
      ∃ (n : VoiceId) (k : Fin 25 → State) (c : VoiceId → Int × Int),
        exec .intKeyLatch s = .next (k 0) ∧
        (∀ m : VoiceId, m < n →
          exec (.intVoiceStep m) (k m.castSucc) = .next (returning (.pair (c m).1 (c m).2) (k m.succ))) ∧
        let z := k n.castSucc
        let block := (z.voice n).cur
        let hdr := memRead1 z block.toNat
        NoError z ∧ NeedsDecode (z.voice n) ∧ ¬ LegalHeader hdr ∧
        exec .intMixStep s =
          .next
            { z with
              fault := some (if hdr.getLsbD 6 then .adpcmHeaderBit6 n block else .adpcmShift n block)
              result := .none })

/-- R341, R343 to R345, R348, R354: a mix step that completes is its seven parts in order, each as its own micro-operation does it:
the key latch, the 24 voice steps, the CD pair, the capture write, the reverb processor in the steps that find its phase 0, the
final mix of the combined sums, and the output. The sums fit 21 signed bits. -/
def Obligations.MixStepParts : Prop :=
  ∀ s : State, NoError s → HeadersReady s →
    ∃ (k : Fin 25 → State) (c : VoiceId → Int × Int) (w r t : State) (oL oR outL outR : Int),
      exec .intKeyLatch s = .next (k 0) ∧
      (∀ n : VoiceId, exec (.intVoiceStep n) (k n.castSucc) = .next (returning (.pair (c n).1 (c n).2) (k n.succ))) ∧
      let z := k (Fin.last 24)
      let pair := z.cdq.headD (0, 0)
      let cdL := if z.g.spucnt.getLsbD 0 then mulq15 (s16 pair.1) (s16 z.g.cdVolL) else 0
      let cdR := if z.g.spucnt.getLsbD 0 then mulq15 (s16 pair.2) (s16 z.g.cdVolR) else 0
      let dryL := (∑ n, (c n).1) + cdL
      let dryR := (∑ n, (c n).2) + cdR
      let revL := (∑ n, if s.g.eon.getLsbD n.val then (c n).1 else 0) + if z.g.spucnt.getLsbD 2 then cdL else 0
      let revR := (∑ n, if s.g.eon.getLsbD n.val then (c n).2 else 0) + if z.g.spucnt.getLsbD 2 then cdR else 0
      exec (.intCaptureWrite pair.1 pair.2) { z with cdq := z.cdq.tail } = .next w ∧
      (if w.g.revPhase then oL = 0 ∧ oR = 0 ∧ r = { w with g := { w.g with revPhase := false } }
        else ∃ x, exec (.intReverb (u16 (sat16 revL)) (u16 (sat16 revR))) w = .next (returning (.pair oL oR) x) ∧
          r = { x with g := { x.g with revPhase := true }, result := .none }) ∧
      (-0x100000 ≤ dryL + oL ∧ dryL + oL < 0x100000) ∧ (-0x100000 ≤ dryR + oR ∧ dryR + oR < 0x100000) ∧
      exec (.intFinalMix (BitVec.ofInt 21 (dryL + oL)) (BitVec.ofInt 21 (dryR + oR))) r =
        .next (returning (.pair outL outR) r) ∧
      exec (.intOutputAppend (u16 outL) (u16 outR)) r = .next t ∧
      exec .intMixStep s = .next t

/-- R117, R194, R195: the external volumes and the bits 13:8, 5:3 and 1 of `SPUCNT` are stored only: a mix step takes two states
that differ in nothing else to two states that differ in nothing else. -/
def Obligations.StoredOnlyFieldsHaveNoEffect : Prop :=
  ∀ (s t : State) (l r cnt : Half), (cnt ^^^ s.g.spucnt) &&& 0xC0C5 = 0 → exec .intMixStep s = .next t →
    exec .intMixStep { s with g := { s.g with extVolL := l, extVolR := r, spucnt := cnt } } =
      .next { t with g := { t.g with extVolL := l, extVolR := r, spucnt := cnt } }

/-- R350: mute acts on the output sample only: two states that differ in bit 14 of `SPUCNT` alone are taken by a mix step to two
states that differ in that bit and in the values of the output bytes alone: buffers of one length, and traces that hold the same
events in the same order but for the bytes that went to the sink, as many in each event. -/
def Obligations.MuteActsOnTheOutputOnly : Prop :=
  ∀ (s t u : State), exec .intMixStep s = .next t →
    exec .intMixStep { s with g := { s.g with spucnt := s.g.spucnt ^^^ 0x4000 } } = .next u →
    u = { t with out := u.out, trace := u.trace, g := { t.g with spucnt := s.g.spucnt ^^^ 0x4000 } } ∧
      u.out.length = t.out.length ∧ u.trace.map maskSamples = t.trace.map maskSamples

/-! ## Reverb -/

/-- R380 to R391, R383, R395: the reverb processor, line by line: the left channel on the memory of the state, then the right channel
on what the left left, every address relative to the cursor at the start, every intermediate value clamped; with reverb writes
disabled no byte changes. The equations of R385 to R389 are the spec's general knowledge (log 14). -/
def Obligations.ReverbLineByLine : Prop :=
  ∀ (inL inR : Half) (s : State), NoError s → Memory.wf s.ram = true →
    ∃ (m t : State) (oL oR : Int), exec (.intReverb inL inR) s = .next t ∧ t.result = .pair oL oR ∧
      ChannelRun s
        { vIN := s.rv.vLIN
          mSAME := s.rv.mLSAME
          dSAME := s.rv.dLSAME
          mDIFF := s.rv.mLDIFF
          dDIFF := s.rv.dRDIFF
          mCOMB1 := s.rv.mLCOMB1
          mCOMB2 := s.rv.mLCOMB2
          mCOMB3 := s.rv.mLCOMB3
          mCOMB4 := s.rv.mLCOMB4
          mAPF1 := s.rv.mLAPF1
          mAPF2 := s.rv.mLAPF2
          vOUT := s.rv.vLOUT } (s16 inL) oL s m ∧
      ChannelRun s
        { vIN := s.rv.vRIN
          mSAME := s.rv.mRSAME
          dSAME := s.rv.dRSAME
          mDIFF := s.rv.mRDIFF
          dDIFF := s.rv.dLDIFF
          mCOMB1 := s.rv.mRCOMB1
          mCOMB2 := s.rv.mRCOMB2
          mCOMB3 := s.rv.mRCOMB3
          mCOMB4 := s.rv.mRCOMB4
          mAPF1 := s.rv.mRAPF1
          mAPF2 := s.rv.mRAPF2
          vOUT := s.rv.vROUT } (s16 inR) oR m t

/-- R380 to R383, R391, R392, R394, R435, R436, R438: what an invocation returns and changes. Both outputs are 16-bit; the cursor
advances by 2 and wraps to the base past 0x7FFFF whether or not writes are enabled. Every byte outside the cells at `mSAME`, `mDIFF`,
`mAPF1` and `mAPF2` of the two channels keeps its value, and with writes disabled every byte does. The interrupt is that of the first
access, in the order of R391 and counting only the writes performed, whose cell is the one at the IRQ address or the one before it;
it is raised if there is such an access, with the enable set and the flag clear, and not otherwise. Nothing else changes. -/
def Obligations.ReverbFrame : Prop :=
  ∀ (inL inR : Half) (s : State), NoError s → Memory.wf s.ram = true →
    ∃ (t : State) (oL oR : Int), exec (.intReverb inL inR) s = .next t ∧
      t =
        { s with
          ram := t.ram
          g := { s.g with
            irqFlag := t.g.irqFlag
            revCur := if 0x7FFFF < s.g.revCur.toNat + 2 then BitVec.ofNat 19 (s.g.mBASE.toNat * 8)
              else BitVec.ofNat 19 (s.g.revCur.toNat + 2) }
          trace := t.trace
          result := .pair oL oR } ∧
      (-0x8000 ≤ oL ∧ oL ≤ 0x7FFF) ∧ (-0x8000 ≤ oR ∧ oR ≤ 0x7FFF) ∧
      (∀ x, x < s.g.mBASE.toNat * 8 → memRead1 t x = memRead1 s x) ∧
      (∀ x, x < 0x80000 →
        (∀ m ∈ [s.rv.mLSAME, s.rv.mLDIFF, s.rv.mLAPF1, s.rv.mLAPF2, s.rv.mRSAME, s.rv.mRDIFF, s.rv.mRAPF1, s.rv.mRAPF2],
          x ≠ (revAddr s (byteAddr m)).toNat ∧ x ≠ (revAddr s (byteAddr m)).toNat + 1) →
        memRead1 t x = memRead1 s x) ∧
      (revWriteEn s.g.spucnt = false → t.ram = s.ram) ∧
      match (reverbOffsets s).find? (fun off => irqCell s (revAddr s off)) with
      | some off => Checked True (.cell (revAddr s off)) s t
      | none => t.g.irqFlag = s.g.irqFlag ∧ t.trace = s.trace

/-- R381 to R390 with every reverb register 0: the output is (0, 0); with writes disabled no byte changes, with writes enabled the
cell at the cursor takes the value of the cell before it and no other byte changes. When that cell is 0, as after reset, this is
what R397 and R477 (b) say: the cell at the cursor is erased, and the next invocation finds a 0 before its cursor again (log 15). -/
def Obligations.ReverbWithZeroRegisters : Prop :=
  ∀ (inL inR : Half) (s : State), NoError s → Memory.wf s.ram = true → GlobalOk s.g → s.rv = ReverbRegs.reset →
    let before := memRead2 s (revAddr s (-2)).toNat
    ∃ t, exec (.intReverb inL inR) s = .next t ∧ t.result = .pair 0 0 ∧
      (revWriteEn s.g.spucnt = false → t.ram = s.ram) ∧
      (revWriteEn s.g.spucnt = true → Stored s.g.revCur.toNat [loByte before, hiByte before] s t) ∧
      (revWriteEn s.g.spucnt = true → before = 0 →
        Stored s.g.revCur.toNat [0, 0] s t ∧ memRead2 t (revAddr t (-2)).toNat = 0)

/-! ## Invariants and rules of the whole block -/

/-- R57 I-a, I-c, I-d, I-f, I-g, R35, R81, R436: from every state that meets the invariants, faulted or not, every step gives a
state that meets them. -/
def Obligations.EveryStepKeepsTheInvariants : Prop :=
  ∀ s t : State, Inv s → step s = .next t → Inv t

/-- R57 I-e, R340: every step keeps the cycle counter of an unfaulted block below one interval. -/
def Obligations.EveryStepKeepsTheCounter : Prop :=
  ∀ s t : State, Counted s → step s = .next t → Counted t

/-- R57 I-h, R476: everything an outside agent can present keeps every voice Off while the master enable is clear. -/
def Obligations.DisabledBlockStaysSilent : Prop :=
  ∀ (i : Instr) (s t : State), i.isInternal = false → DisabledOff s → exec i s = .next t → DisabledOff t

/-- R436, R437, R441: the trace only grows; a transaction raises at most one interrupt, and none with the enable clear or the flag
set; the flag is set only by raising one, and cleared only by a write of `SPUCNT` with bit 6 clear (half-word, or in the high half
of a word at 0xDA8) or by `RESET`. -/
def Obligations.InterruptDiscipline : Prop :=
  ∀ (i : Instr) (s t : State), i ≠ .reset → exec i s = .next t →
    s.trace <+: t.trace ∧
    (irqCount t.trace = irqCount s.trace ∨
      irq9En s.g.spucnt = true ∧ s.g.irqFlag = false ∧ irqCount t.trace = irqCount s.trace + 1) ∧
    (s.g.irqFlag = false → t.g.irqFlag = true → irqCount t.trace = irqCount s.trace + 1) ∧
    (s.g.irqFlag = true → t.g.irqFlag = false →
      (∃ v, i = .wr16Spucnt v ∧ v.getLsbD 6 = false) ∨ (∃ w, i = .wr32 0xDA8 w ∧ w.getLsbD 22 = false))

/-- R21, R80: what can change a byte of Sound RAM: the port (also through a word write at 0xDA8), `DMA_WR`, the mix step and its
capture write and reverb processor, and `RESET`. -/
def Obligations.SoundRamWriters : Prop :=
  ∀ (i : Instr) (s t : State) (a : Nat), exec i s = .next t → memRead1 t a ≠ memRead1 s a →
    (∃ v, i = .wr16XferPort v) ∨ (∃ w, i = .wr32 0xDA8 w) ∨ (∃ w, i = .dmaWr w) ∨ (∃ c, i = .tick c) ∨
      i = .intMixStep ∨ (∃ cl cr, i = .intCaptureWrite cl cr) ∨ (∃ inL inR, i = .intReverb inL inR) ∨ i = .reset
end

