-- ==== Sys2Proof/Laws/State.lean ====
section
/-! SUPPORT. The named updates of State, field by field: one lemma per field per update, so that no proof unfolds an update;
then the voices under each update, and the frame of a transaction (`transact`). -/

namespace Sys2Proof.Machine

open Sys2Proof Sys2Proof.Safety

/-! ### `setVoice` -/

@[simp] theorem setVoice_ram (s : State) (n : VoiceId) (v : Voice) : (s.setVoice n v).ram = s.ram := rfl
theorem setVoice_voices (s : State) (n : VoiceId) (v : Voice) : (s.setVoice n v).voices = s.voices.set n.val v := rfl
@[simp] theorem setVoice_g (s : State) (n : VoiceId) (v : Voice) : (s.setVoice n v).g = s.g := rfl
@[simp] theorem setVoice_rv (s : State) (n : VoiceId) (v : Voice) : (s.setVoice n v).rv = s.rv := rfl
@[simp] theorem setVoice_cdq (s : State) (n : VoiceId) (v : Voice) : (s.setVoice n v).cdq = s.cdq := rfl
@[simp] theorem setVoice_out (s : State) (n : VoiceId) (v : Voice) : (s.setVoice n v).out = s.out := rfl
@[simp] theorem setVoice_fault (s : State) (n : VoiceId) (v : Voice) : (s.setVoice n v).fault = s.fault := rfl
@[simp] theorem setVoice_trace (s : State) (n : VoiceId) (v : Voice) : (s.setVoice n v).trace = s.trace := rfl
@[simp] theorem setVoice_result (s : State) (n : VoiceId) (v : Voice) : (s.setVoice n v).result = s.result := rfl
@[simp] theorem setVoice_pending (s : State) (n : VoiceId) (v : Voice) : (s.setVoice n v).pending = s.pending := rfl
@[simp] theorem setVoice_draws (s : State) (n : VoiceId) (v : Voice) : (s.setVoice n v).draws = s.draws := rfl

/-! ### `emit` -/

@[simp] theorem emit_ram (s : State) (e : Event) : (emit e s).ram = s.ram := rfl
@[simp] theorem emit_voices (s : State) (e : Event) : (emit e s).voices = s.voices := rfl
@[simp] theorem emit_g (s : State) (e : Event) : (emit e s).g = s.g := rfl
@[simp] theorem emit_rv (s : State) (e : Event) : (emit e s).rv = s.rv := rfl
@[simp] theorem emit_cdq (s : State) (e : Event) : (emit e s).cdq = s.cdq := rfl
@[simp] theorem emit_out (s : State) (e : Event) : (emit e s).out = s.out := rfl
@[simp] theorem emit_fault (s : State) (e : Event) : (emit e s).fault = s.fault := rfl
@[simp] theorem emit_trace (s : State) (e : Event) : (emit e s).trace = s.trace ++ [e] := rfl
@[simp] theorem emit_result (s : State) (e : Event) : (emit e s).result = s.result := rfl
@[simp] theorem emit_pending (s : State) (e : Event) : (emit e s).pending = s.pending := rfl
@[simp] theorem emit_draws (s : State) (e : Event) : (emit e s).draws = s.draws := rfl

/-! ### `returning` -/

@[simp] theorem returning_ram (s : State) (r : Result) : (returning r s).ram = s.ram := rfl
@[simp] theorem returning_voices (s : State) (r : Result) : (returning r s).voices = s.voices := rfl
@[simp] theorem returning_g (s : State) (r : Result) : (returning r s).g = s.g := rfl
@[simp] theorem returning_rv (s : State) (r : Result) : (returning r s).rv = s.rv := rfl
@[simp] theorem returning_cdq (s : State) (r : Result) : (returning r s).cdq = s.cdq := rfl
@[simp] theorem returning_out (s : State) (r : Result) : (returning r s).out = s.out := rfl
@[simp] theorem returning_fault (s : State) (r : Result) : (returning r s).fault = s.fault := rfl
@[simp] theorem returning_trace (s : State) (r : Result) : (returning r s).trace = s.trace := rfl
@[simp] theorem returning_result (s : State) (r : Result) : (returning r s).result = r := rfl
@[simp] theorem returning_pending (s : State) (r : Result) : (returning r s).pending = s.pending := rfl
@[simp] theorem returning_draws (s : State) (r : Result) : (returning r s).draws = s.draws := rfl

/-! ### `raise` -/

@[simp] theorem raise_ram (s : State) (e : BlockError) : (raise e s).ram = s.ram := rfl
@[simp] theorem raise_voices (s : State) (e : BlockError) : (raise e s).voices = s.voices := rfl
@[simp] theorem raise_g (s : State) (e : BlockError) : (raise e s).g = s.g := rfl
@[simp] theorem raise_rv (s : State) (e : BlockError) : (raise e s).rv = s.rv := rfl
@[simp] theorem raise_cdq (s : State) (e : BlockError) : (raise e s).cdq = s.cdq := rfl
@[simp] theorem raise_out (s : State) (e : BlockError) : (raise e s).out = s.out := rfl
@[simp] theorem raise_fault (s : State) (e : BlockError) : (raise e s).fault = some e := rfl
@[simp] theorem raise_trace (s : State) (e : BlockError) : (raise e s).trace = s.trace := rfl
@[simp] theorem raise_result (s : State) (e : BlockError) : (raise e s).result = s.result := rfl
@[simp] theorem raise_pending (s : State) (e : BlockError) : (raise e s).pending = s.pending := rfl
@[simp] theorem raise_draws (s : State) (e : BlockError) : (raise e s).draws = s.draws := rfl

/-! ### `setEndx` -/

@[simp] theorem setEndx_ram (s : State) (n : VoiceId) : (setEndx n s).ram = s.ram := rfl
@[simp] theorem setEndx_voices (s : State) (n : VoiceId) : (setEndx n s).voices = s.voices := rfl
@[simp] theorem setEndx_g (s : State) (n : VoiceId) : (setEndx n s).g = { s.g with endx := setMaskBit s.g.endx n } := rfl
@[simp] theorem setEndx_rv (s : State) (n : VoiceId) : (setEndx n s).rv = s.rv := rfl
@[simp] theorem setEndx_cdq (s : State) (n : VoiceId) : (setEndx n s).cdq = s.cdq := rfl
@[simp] theorem setEndx_out (s : State) (n : VoiceId) : (setEndx n s).out = s.out := rfl
@[simp] theorem setEndx_fault (s : State) (n : VoiceId) : (setEndx n s).fault = s.fault := rfl
@[simp] theorem setEndx_trace (s : State) (n : VoiceId) : (setEndx n s).trace = s.trace := rfl
@[simp] theorem setEndx_result (s : State) (n : VoiceId) : (setEndx n s).result = s.result := rfl
@[simp] theorem setEndx_pending (s : State) (n : VoiceId) : (setEndx n s).pending = s.pending := rfl
@[simp] theorem setEndx_draws (s : State) (n : VoiceId) : (setEndx n s).draws = s.draws := rfl

/-! ### `clearEndx` -/

@[simp] theorem clearEndx_ram (s : State) (n : VoiceId) : (clearEndx n s).ram = s.ram := rfl
@[simp] theorem clearEndx_voices (s : State) (n : VoiceId) : (clearEndx n s).voices = s.voices := rfl
@[simp] theorem clearEndx_g (s : State) (n : VoiceId) :
    (clearEndx n s).g = { s.g with endx := clearMaskBit s.g.endx n } := rfl
@[simp] theorem clearEndx_rv (s : State) (n : VoiceId) : (clearEndx n s).rv = s.rv := rfl
@[simp] theorem clearEndx_cdq (s : State) (n : VoiceId) : (clearEndx n s).cdq = s.cdq := rfl
@[simp] theorem clearEndx_out (s : State) (n : VoiceId) : (clearEndx n s).out = s.out := rfl
@[simp] theorem clearEndx_fault (s : State) (n : VoiceId) : (clearEndx n s).fault = s.fault := rfl
@[simp] theorem clearEndx_trace (s : State) (n : VoiceId) : (clearEndx n s).trace = s.trace := rfl
@[simp] theorem clearEndx_result (s : State) (n : VoiceId) : (clearEndx n s).result = s.result := rfl
@[simp] theorem clearEndx_pending (s : State) (n : VoiceId) : (clearEndx n s).pending = s.pending := rfl
@[simp] theorem clearEndx_draws (s : State) (n : VoiceId) : (clearEndx n s).draws = s.draws := rfl

/-! ### `memWrite1` -/

theorem memWrite1_ram (s : State) (a : Nat) (b : Byte) : (memWrite1 a b s).ram = Memory.write s.ram (a % 0x80000) b := rfl
@[simp] theorem memWrite1_voices (s : State) (a : Nat) (b : Byte) : (memWrite1 a b s).voices = s.voices := rfl
@[simp] theorem memWrite1_g (s : State) (a : Nat) (b : Byte) : (memWrite1 a b s).g = s.g := rfl
@[simp] theorem memWrite1_rv (s : State) (a : Nat) (b : Byte) : (memWrite1 a b s).rv = s.rv := rfl
@[simp] theorem memWrite1_cdq (s : State) (a : Nat) (b : Byte) : (memWrite1 a b s).cdq = s.cdq := rfl
@[simp] theorem memWrite1_out (s : State) (a : Nat) (b : Byte) : (memWrite1 a b s).out = s.out := rfl
@[simp] theorem memWrite1_fault (s : State) (a : Nat) (b : Byte) : (memWrite1 a b s).fault = s.fault := rfl
@[simp] theorem memWrite1_trace (s : State) (a : Nat) (b : Byte) : (memWrite1 a b s).trace = s.trace := rfl
@[simp] theorem memWrite1_result (s : State) (a : Nat) (b : Byte) : (memWrite1 a b s).result = s.result := rfl
@[simp] theorem memWrite1_pending (s : State) (a : Nat) (b : Byte) : (memWrite1 a b s).pending = s.pending := rfl
@[simp] theorem memWrite1_draws (s : State) (a : Nat) (b : Byte) : (memWrite1 a b s).draws = s.draws := rfl

/-! ### `memWrite2` -/

theorem memWrite2_ram (s : State) (a : Nat) (h : Half) :
    (memWrite2 a h s).ram = Memory.write (Memory.write s.ram (a % 0x80000) (loByte h)) ((a + 1) % 0x80000) (hiByte h) := rfl
@[simp] theorem memWrite2_voices (s : State) (a : Nat) (h : Half) : (memWrite2 a h s).voices = s.voices := rfl
@[simp] theorem memWrite2_g (s : State) (a : Nat) (h : Half) : (memWrite2 a h s).g = s.g := rfl
@[simp] theorem memWrite2_rv (s : State) (a : Nat) (h : Half) : (memWrite2 a h s).rv = s.rv := rfl
@[simp] theorem memWrite2_cdq (s : State) (a : Nat) (h : Half) : (memWrite2 a h s).cdq = s.cdq := rfl
@[simp] theorem memWrite2_out (s : State) (a : Nat) (h : Half) : (memWrite2 a h s).out = s.out := rfl
@[simp] theorem memWrite2_fault (s : State) (a : Nat) (h : Half) : (memWrite2 a h s).fault = s.fault := rfl
@[simp] theorem memWrite2_trace (s : State) (a : Nat) (h : Half) : (memWrite2 a h s).trace = s.trace := rfl
@[simp] theorem memWrite2_result (s : State) (a : Nat) (h : Half) : (memWrite2 a h s).result = s.result := rfl
@[simp] theorem memWrite2_pending (s : State) (a : Nat) (h : Half) : (memWrite2 a h s).pending = s.pending := rfl
@[simp] theorem memWrite2_draws (s : State) (a : Nat) (h : Half) : (memWrite2 a h s).draws = s.draws := rfl

/-! ### `setCursor` -/

@[simp] theorem setCursor_ram (s : State) (c : RamAddr) : (setCursor c s).ram = s.ram := rfl
@[simp] theorem setCursor_voices (s : State) (c : RamAddr) : (setCursor c s).voices = s.voices := rfl
@[simp] theorem setCursor_g (s : State) (c : RamAddr) : (setCursor c s).g = { s.g with xferCur := c } := rfl
@[simp] theorem setCursor_rv (s : State) (c : RamAddr) : (setCursor c s).rv = s.rv := rfl
@[simp] theorem setCursor_cdq (s : State) (c : RamAddr) : (setCursor c s).cdq = s.cdq := rfl
@[simp] theorem setCursor_out (s : State) (c : RamAddr) : (setCursor c s).out = s.out := rfl
@[simp] theorem setCursor_fault (s : State) (c : RamAddr) : (setCursor c s).fault = s.fault := rfl
@[simp] theorem setCursor_trace (s : State) (c : RamAddr) : (setCursor c s).trace = s.trace := rfl
@[simp] theorem setCursor_result (s : State) (c : RamAddr) : (setCursor c s).result = s.result := rfl
@[simp] theorem setCursor_pending (s : State) (c : RamAddr) : (setCursor c s).pending = s.pending := rfl
@[simp] theorem setCursor_draws (s : State) (c : RamAddr) : (setCursor c s).draws = s.draws := rfl

/-! ### The voices -/

theorem voice_setVoice (s : State) (n m : VoiceId) (v : Voice) :
    (s.setVoice n v).voice m = if m = n then v else s.voice m := by
  have hm : m.val < s.voices.size := by simp
  simp only [State.voice, State.setVoice, Fin.getElem_fin, Vector.getElem_set]
  by_cases h : m = n
  · subst h; simp
  · have h' : n.val ≠ m.val := fun e => h (Fin.ext e.symm)
    simp [h, h']

@[simp] theorem voice_setVoice_self (s : State) (n : VoiceId) (v : Voice) : (s.setVoice n v).voice n = v := by
  simp [voice_setVoice]

theorem voice_setVoice_ne (s : State) {n m : VoiceId} (v : Voice) (h : m ≠ n) :
    (s.setVoice n v).voice m = s.voice m := by
  simp [voice_setVoice, h]

/-- Two states with the same voice records have the same vector of voices. -/
theorem voices_ext {s t : State} (h : ∀ n : VoiceId, s.voice n = t.voice n) : s.voices = t.voices :=
  Vector.ext fun i hi => h ⟨i, hi⟩

theorem voice_of_voices {s t : State} (h : s.voices = t.voices) (n : VoiceId) : s.voice n = t.voice n := by
  simp [State.voice, h]

@[simp] theorem setVoice_setVoice (s : State) (n : VoiceId) (v w : Voice) :
    (s.setVoice n v).setVoice n w = s.setVoice n w := by
  simp [State.setVoice]

@[simp] theorem setVoice_voice (s : State) (n : VoiceId) : s.setVoice n (s.voice n) = s := by
  simp [State.setVoice, State.voice]

/-! ### An update of anything else leaves every voice -/

@[simp] theorem emit_voice (s : State) (e : Event) (m : VoiceId) : (emit e s).voice m = s.voice m := rfl
@[simp] theorem returning_voice (s : State) (r : Result) (m : VoiceId) : (returning r s).voice m = s.voice m := rfl
@[simp] theorem raise_voice (s : State) (e : BlockError) (m : VoiceId) : (raise e s).voice m = s.voice m := rfl
@[simp] theorem setEndx_voice (s : State) (n : VoiceId) (m : VoiceId) : (setEndx n s).voice m = s.voice m := rfl
@[simp] theorem clearEndx_voice (s : State) (n : VoiceId) (m : VoiceId) : (clearEndx n s).voice m = s.voice m := rfl
@[simp] theorem memWrite1_voice (s : State) (a : Nat) (b : Byte) (m : VoiceId) : (memWrite1 a b s).voice m = s.voice m := rfl
@[simp] theorem memWrite2_voice (s : State) (a : Nat) (h : Half) (m : VoiceId) : (memWrite2 a h s).voice m = s.voice m := rfl
@[simp] theorem setCursor_voice (s : State) (c : RamAddr) (m : VoiceId) : (setCursor c s).voice m = s.voice m := rfl
@[simp] theorem voice_with_ram (s : State) (x) (m : VoiceId) : State.voice { s with ram := x } m = s.voice m := rfl
@[simp] theorem voice_with_g (s : State) (x) (m : VoiceId) : State.voice { s with g := x } m = s.voice m := rfl
@[simp] theorem voice_with_rv (s : State) (x) (m : VoiceId) : State.voice { s with rv := x } m = s.voice m := rfl
@[simp] theorem voice_with_cdq (s : State) (x) (m : VoiceId) : State.voice { s with cdq := x } m = s.voice m := rfl
@[simp] theorem voice_with_out (s : State) (x) (m : VoiceId) : State.voice { s with out := x } m = s.voice m := rfl
@[simp] theorem voice_with_fault (s : State) (x) (m : VoiceId) : State.voice { s with fault := x } m = s.voice m := rfl
@[simp] theorem voice_with_trace (s : State) (x) (m : VoiceId) : State.voice { s with trace := x } m = s.voice m := rfl
@[simp] theorem voice_with_result (s : State) (x) (m : VoiceId) : State.voice { s with result := x } m = s.voice m := rfl
@[simp] theorem voice_with_pending (s : State) (x) (m : VoiceId) : State.voice { s with pending := x } m = s.voice m := rfl
@[simp] theorem voice_with_draws (s : State) (x) (m : VoiceId) : State.voice { s with draws := x } m = s.voice m := rfl

/-! ### Transactions (R430) -/

theorem faulted_of_noError {s : State} (h : NoError s) : faulted s = false := by simp [faulted, h]

theorem noError_of_not_faulted {s : State} (h : faulted s = false) : NoError s := by
  simpa [faulted] using h

/-- A transaction presented to an unfaulted block runs, and returns nothing unless it says so. -/
theorem transact_of_noError {s : State} (f : State → State) (h : NoError s) : transact f s = f (returning .none s) := by
  simp [transact, faulted_of_noError h]

/-- A transaction presented to a faulted block changes nothing. -/
theorem transact_of_error {s : State} (f : State → State) (h : ¬ NoError s) : transact f s = returning .refused s := by
  have : faulted s = true := by
    cases hf : s.fault with
    | none => exact absurd hf h
    | some e => simp [faulted, hf]
  simp [transact, this]

@[simp] theorem returning_returning (s : State) (r r' : Result) : returning r (returning r' s) = returning r s := rfl

end Sys2Proof.Machine
end

