-- ==== Sys2Proof/Laws/Memory.lean ====
section
/-! SUPPORT. Sound RAM: reading after writing, the canonical form that every write keeps, and that memories in canonical form
with equal bytes are equal lists (spec/20_memory.md R81 to R84). -/

namespace Sys2Proof.Machine

open Sys2Proof Sys2Proof.Safety

/-! ### The list -/

theorem Memory.wfFrom_mono {lo lo' : Nat} (h : lo' ≤ lo) : ∀ {m : Memory}, Memory.wfFrom lo m = true → Memory.wfFrom lo' m = true
  | [], _ => rfl
  | (k, b) :: rest, hw => by
    simp only [Memory.wfFrom, Bool.and_eq_true, decide_eq_true_eq] at hw ⊢
    exact ⟨⟨⟨by omega, hw.1.1.2⟩, hw.1.2⟩, hw.2⟩

/-- A canonical list holds nothing below its bound. -/
theorem Memory.read_below {m : Memory} {lo a : Nat} (hw : Memory.wfFrom lo m = true) (h : a < lo) : Memory.read m a = 0 := by
  induction m generalizing lo with
  | nil => rfl
  | cons c rest ih =>
    obtain ⟨k, b⟩ := c
    simp only [Memory.wfFrom, Bool.and_eq_true, decide_eq_true_eq] at hw
    have hk : k ≠ a := by omega
    simp only [Memory.read, hk, if_false]
    exact ih hw.2 (by omega)

/-- A byte written is the byte read, and every other byte stays. -/
theorem Memory.read_write {m : Memory} {lo : Nat} (hw : Memory.wfFrom lo m = true) (a : Nat) (v : Byte) (x : Nat) :
    Memory.read (Memory.write m a v) x = if x = a then v else Memory.read m x := by
  induction m generalizing lo with
  | nil =>
    by_cases hv : v = 0#8
    · simp [Memory.write, Memory.read, hv]
    · by_cases hx : x = a
      · simp [Memory.write, Memory.read, hv, hx]
      · have : ¬ a = x := fun h => hx h.symm
        simp [Memory.write, Memory.read, hv, hx, this]
  | cons c rest ih =>
    obtain ⟨k, b⟩ := c
    have hw' := hw
    simp only [Memory.wfFrom, Bool.and_eq_true, decide_eq_true_eq] at hw
    have htail : ∀ y, y < k + 1 → Memory.read rest y = 0 := fun y hy => Memory.read_below hw.2 hy
    unfold Memory.write
    by_cases h1 : a < k
    · by_cases hv : v = 0#8
      · simp only [h1, if_true, if_pos (show v = 0 from hv)]
        by_cases hx : x = a
        · subst hx
          have : ¬ k = x := by omega
          simp [Memory.read, this, hv, htail x (by omega)]
        · simp [hx]
      · simp only [h1, if_true, if_neg (show ¬ v = 0 from hv)]
        by_cases hx : x = a
        · subst hx; simp [Memory.read]
        · have : ¬ a = x := fun h => hx h.symm
          simp [Memory.read, hx, this]
    · by_cases h2 : a = k
      · subst h2
        by_cases hv : v = 0#8
        · simp only [lt_irrefl, if_true, if_false, if_pos (show v = 0 from hv)]
          by_cases hx : x = a
          · subst hx; simp [hv, htail x (by omega)]
          · have : ¬ a = x := fun h => hx h.symm
            simp [Memory.read, hx, this]
        · simp only [lt_irrefl, if_true, if_false, if_neg (show ¬ v = 0 from hv)]
          by_cases hx : x = a
          · subst hx; simp [Memory.read]
          · have : ¬ a = x := fun h => hx h.symm
            simp [Memory.read, hx, this]
      · simp only [h1, h2, if_false]
        by_cases hx : k = x
        · subst hx
          have : ¬ k = a := fun h => h2 h.symm
          simp [Memory.read, this]
        · simp only [Memory.read, hx, if_false]
          exact ih hw.2

theorem Memory.wfFrom_write {m : Memory} {lo a : Nat} (hw : Memory.wfFrom lo m = true) (hlo : lo ≤ a) (ha : a < 0x80000)
    (v : Byte) : Memory.wfFrom lo (Memory.write m a v) = true := by
  induction m generalizing lo with
  | nil =>
    by_cases hv : v = 0
    · simp only [Memory.write, if_pos hv, Memory.wfFrom]
    · simp only [Memory.write, if_neg hv, Memory.wfFrom]
      simp only [Bool.and_eq_true, decide_eq_true_eq, and_true]
      exact ⟨⟨hlo, ha⟩, hv⟩
  | cons c rest ih =>
    obtain ⟨k, b⟩ := c
    simp only [Memory.wfFrom, Bool.and_eq_true, decide_eq_true_eq] at hw
    obtain ⟨⟨⟨h1, h2⟩, h3⟩, h4⟩ := hw
    unfold Memory.write
    by_cases h : a < k
    · by_cases hv : v = 0
      · simp only [if_pos h, if_pos hv, Memory.wfFrom, Bool.and_eq_true, decide_eq_true_eq]
        exact ⟨⟨⟨h1, h2⟩, h3⟩, h4⟩
      · simp only [if_pos h, if_neg hv, Memory.wfFrom, Bool.and_eq_true, decide_eq_true_eq]
        exact ⟨⟨⟨hlo, ha⟩, hv⟩, ⟨⟨by omega, h2⟩, h3⟩, h4⟩
    · by_cases he : a = k
      · subst he
        by_cases hv : v = 0
        · simp only [lt_irrefl, if_true, if_false, if_pos hv]
          exact Memory.wfFrom_mono (by omega) h4
        · simp only [lt_irrefl, if_true, if_false, if_neg hv, Memory.wfFrom, Bool.and_eq_true, decide_eq_true_eq]
          exact ⟨⟨⟨hlo, ha⟩, hv⟩, h4⟩
      · simp only [h, he, if_false, Memory.wfFrom, Bool.and_eq_true, decide_eq_true_eq]
        exact ⟨⟨⟨h1, h2⟩, h3⟩, ih h4 (by omega)⟩

/-- Every write keeps the canonical form. -/
theorem Memory.wf_write {m : Memory} (hw : Memory.wf m = true) {a : Nat} (ha : a < 0x80000) (v : Byte) :
    Memory.wf (Memory.write m a v) = true := Memory.wfFrom_write hw (by omega) ha v

theorem Memory.eq_of_read {m m' : Memory} {lo : Nat} (hw : Memory.wfFrom lo m = true) (hw' : Memory.wfFrom lo m' = true)
    (h : ∀ a, Memory.read m a = Memory.read m' a) : m = m' := by
  induction m generalizing lo m' with
  | nil =>
    cases m' with
    | nil => rfl
    | cons c rest =>
      obtain ⟨k, b⟩ := c
      have hk := h k
      simp only [Memory.wfFrom, Bool.and_eq_true, decide_eq_true_eq] at hw'
      simp only [Memory.read, if_true] at hk
      exact absurd hk.symm hw'.1.2
  | cons c rest ih =>
    obtain ⟨k, b⟩ := c
    simp only [Memory.wfFrom, Bool.and_eq_true, decide_eq_true_eq] at hw
    cases m' with
    | nil =>
      have hk := h k
      simp only [Memory.read, if_true] at hk
      exact absurd hk hw.1.2
    | cons c' rest' =>
      obtain ⟨k', b'⟩ := c'
      simp only [Memory.wfFrom, Bool.and_eq_true, decide_eq_true_eq] at hw'
      have hkk : k = k' := by
        rcases Nat.lt_trichotomy k k' with hlt | heq | hgt
        · have hk := h k
          have hne : ¬ k' = k := by omega
          simp only [Memory.read, if_true, hne, if_false] at hk
          rw [Memory.read_below hw'.2 (by omega)] at hk
          exact absurd hk hw.1.2
        · exact heq
        · have hk := h k'
          have hne : ¬ k = k' := by omega
          simp only [Memory.read, if_true, hne, if_false] at hk
          rw [Memory.read_below hw.2 (by omega)] at hk
          exact absurd hk.symm hw'.1.2
      subst hkk
      have hb : b = b' := by have := h k; simpa [Memory.read] using this
      subst hb
      have : rest = rest' := by
        refine ih hw.2 hw'.2 fun a => ?_
        by_cases hka : k = a
        · subst hka
          rw [Memory.read_below hw.2 (by omega), Memory.read_below hw'.2 (by omega)]
        · have := h a
          simpa [Memory.read, hka] using this
      rw [this]

/-- Memories in canonical form that hold the same bytes are the same list. -/
theorem Memory.ext_of_wf {m m' : Memory} (hw : Memory.wf m = true) (hw' : Memory.wf m' = true)
    (h : ∀ a, Memory.read m a = Memory.read m' a) : m = m' := Memory.eq_of_read hw hw' h

theorem reset_memory_wf : Memory.wf State.reset.ram = true := rfl

/-! ### Bytes and halves -/

theorem getLsbD_mkHalf (hi lo : Byte) (i : Nat) :
    (mkHalf hi lo).getLsbD i = if i < 8 then lo.getLsbD i else hi.getLsbD (i - 8) := by
  refine (BitVec.getLsbD_append (x := hi) (y := lo) (i := i)).trans ?_
  by_cases h8 : i < 8 <;> simp [h8]

theorem getLsbD_mkWord (hi lo : Half) (i : Nat) :
    (mkWord hi lo).getLsbD i = if i < 16 then lo.getLsbD i else hi.getLsbD (i - 16) := by
  refine (BitVec.getLsbD_append (x := hi) (y := lo) (i := i)).trans ?_
  by_cases h16 : i < 16 <;> simp [h16]

@[simp] theorem loByte_mkHalf (hi lo : Byte) : loByte (mkHalf hi lo) = lo := by
  refine BitVec.eq_of_getLsbD_eq fun i h => ?_
  simp [loByte, getLsbD_mkHalf, h]

@[simp] theorem hiByte_mkHalf (hi lo : Byte) : hiByte (mkHalf hi lo) = hi := by
  refine BitVec.eq_of_getLsbD_eq fun i h => ?_
  simp [hiByte, getLsbD_mkHalf, h]

@[simp] theorem mkHalf_bytes (h : Half) : mkHalf (hiByte h) (loByte h) = h := by
  refine BitVec.eq_of_getLsbD_eq fun i hi => ?_
  by_cases h8 : i < 8
  · simp [getLsbD_mkHalf, loByte, h8]
  · have h1 : 8 + (i - 8) = i := by omega
    have h2 : i - 8 < 8 := by omega
    simp [getLsbD_mkHalf, hiByte, h8, h1, h2]

@[simp] theorem mkWord_halves (w : Word) : mkWord (wordHi w) (wordLo w) = w := by
  refine BitVec.eq_of_getLsbD_eq fun i hi => ?_
  by_cases h16 : i < 16
  · simp [getLsbD_mkWord, wordLo, h16]
  · have h1 : 16 + (i - 16) = i := by omega
    have h2 : i - 16 < 16 := by omega
    simp [getLsbD_mkWord, wordHi, h16, h1, h2]

@[simp] theorem wordLo_mkWord (hi lo : Half) : wordLo (mkWord hi lo) = lo := by
  refine BitVec.eq_of_getLsbD_eq fun i h => ?_
  simp [wordLo, getLsbD_mkWord, h]

@[simp] theorem wordHi_mkWord (hi lo : Half) : wordHi (mkWord hi lo) = hi := by
  refine BitVec.eq_of_getLsbD_eq fun i h => ?_
  simp [wordHi, getLsbD_mkWord, h]

/-! ### Reads and writes of the state (R82, R83) -/

/-- The byte read depends on Sound RAM alone. -/
theorem memRead1_congr {s t : State} (h : s.ram = t.ram) (a : Nat) : memRead1 s a = memRead1 t a := by
  simp [memRead1, h]

theorem memRead2_congr {s t : State} (h : s.ram = t.ram) (a : Nat) : memRead2 s a = memRead2 t a := by
  simp [memRead2, memRead1_congr h]

/-- Addresses count modulo 0x80000 (R81). -/
theorem memRead1_mod (s : State) (a : Nat) : memRead1 s (a % 0x80000) = memRead1 s a := by
  simp [memRead1]

theorem memRead1_memWrite1 {s : State} (hw : Memory.wf s.ram = true) (a : Nat) (v : Byte) (x : Nat) :
    memRead1 (memWrite1 a v s) x = if x % 0x80000 = a % 0x80000 then v else memRead1 s x := by
  simp [memRead1, memWrite1, Memory.read_write hw]

theorem memWrite1_wf {s : State} (hw : Memory.wf s.ram = true) (a : Nat) (v : Byte) :
    Memory.wf (memWrite1 a v s).ram = true := Memory.wf_write hw (Nat.mod_lt _ (by decide)) v

theorem memWrite2_wf {s : State} (hw : Memory.wf s.ram = true) (a : Nat) (h : Half) :
    Memory.wf (memWrite2 a h s).ram = true := memWrite1_wf (memWrite1_wf hw _ _) _ _

/-- A cell written: its two bytes, and every other byte as before (R83, R84). -/
theorem memRead1_memWrite2 {s : State} (hw : Memory.wf s.ram = true) (a : Nat) (h : Half) (x : Nat) :
    memRead1 (memWrite2 a h s) x =
      if x % 0x80000 = (a + 1) % 0x80000 then hiByte h
      else if x % 0x80000 = a % 0x80000 then loByte h
      else memRead1 s x := by
  unfold memWrite2
  rw [memRead1_memWrite1 (memWrite1_wf hw _ _), memRead1_memWrite1 hw]

/-- A cell written is the cell read. -/
theorem memRead2_memWrite2 {s : State} (hw : Memory.wf s.ram = true) (a : Nat) (h : Half) :
    memRead2 (memWrite2 a h s) a = h := by
  have hne : ¬ a % 0x80000 = (a + 1) % 0x80000 := by omega
  simp [memRead2, memRead1_memWrite2 hw, hne]

end Sys2Proof.Machine
end

