-- ==== Sys2Proof/Laws/Ops.lean ====
section
/-! SUPPORT. What each shared operation of Sys2Proof/Machine/Ops.lean can do, said once: the interrupt checks change the pending
flag and the trace alone, and raise at most one interrupt; the unimplemented-register condition changes `FAULT`, or the
trace and the result. -/

namespace Sys2Proof.Machine

open Sys2Proof Sys2Proof.Safety

/-! ### What an interrupt check can do (R436) -/

/-- From `s` to `t` nothing happened, or one interrupt was raised: enabled, the flag clear before it and set after it. -/
def IrqStep (s t : State) : Prop :=
  t = s ∨ (irq9En s.g.spucnt = true ∧ s.g.irqFlag = false ∧
    ∃ source, t = { s with g := { s.g with irqFlag := true }, trace := s.trace ++ [.irq9 source] })

theorem IrqStep.refl (s : State) : IrqStep s s := .inl rfl

/-- The flag holds off the second interrupt. -/
theorem IrqStep.trans {s t u : State} (h : IrqStep s t) (h' : IrqStep t u) : IrqStep s u := by
  rcases h with rfl | ⟨he, hf, src, rfl⟩
  · exact h'
  · rcases h' with rfl | ⟨_, hf', _⟩
    · exact .inr ⟨he, hf, src, rfl⟩
    · simp at hf'

theorem signalIrq_step (source : IrqSource) (s : State) : IrqStep s (signalIrq source s) := by
  unfold signalIrq
  split
  · rename_i h
    simp only [Bool.and_eq_true, Bool.not_eq_true'] at h
    exact .inr ⟨h.1, h.2, source, rfl⟩
  · exact .inl rfl

/-- `SignalIrq` with the interrupt enabled and none pending raises it (R436). -/
theorem signalIrq_raises {source : IrqSource} {s : State} (he : irq9En s.g.spucnt = true) (hf : s.g.irqFlag = false) :
    signalIrq source s = { s with g := { s.g with irqFlag := true }, trace := s.trace ++ [.irq9 source] } := by
  simp [signalIrq, he, hf, emit]

/-- `SignalIrq` with the interrupt disabled, or pending already, does nothing (R436). -/
theorem signalIrq_quiet {source : IrqSource} {s : State} (h : irq9En s.g.spucnt = false ∨ s.g.irqFlag = true) :
    signalIrq source s = s := by
  rcases h with h | h <;> simp [signalIrq, h]

theorem cellIrqCheck_step (a : RamAddr) (s : State) : IrqStep s (cellIrqCheck a s) := by
  unfold cellIrqCheck
  split
  · exact signalIrq_step _ _
  · exact .inl rfl

theorem voiceIrqCheck_step (n : VoiceId) (block : RamAddr) (s : State) : IrqStep s (voiceIrqCheck n block s) := by
  unfold voiceIrqCheck
  split
  · exact signalIrq_step _ _
  · exact .inl rfl

theorem dmaIrqCheck_step (s : State) : IrqStep s (dmaIrqCheck s) := by
  unfold dmaIrqCheck
  split
  · exact signalIrq_step _ _
  · exact .inl rfl

/-! The fields an interrupt check leaves alone. -/

section frame

variable {s t : State} (h : IrqStep s t)
include h

theorem IrqStep.ram : t.ram = s.ram := by rcases h with rfl | ⟨_, _, _, rfl⟩ <;> rfl
theorem IrqStep.voices : t.voices = s.voices := by rcases h with rfl | ⟨_, _, _, rfl⟩ <;> rfl
theorem IrqStep.rv : t.rv = s.rv := by rcases h with rfl | ⟨_, _, _, rfl⟩ <;> rfl
theorem IrqStep.cdq : t.cdq = s.cdq := by rcases h with rfl | ⟨_, _, _, rfl⟩ <;> rfl
theorem IrqStep.out : t.out = s.out := by rcases h with rfl | ⟨_, _, _, rfl⟩ <;> rfl
theorem IrqStep.fault : t.fault = s.fault := by rcases h with rfl | ⟨_, _, _, rfl⟩ <;> rfl
theorem IrqStep.result : t.result = s.result := by rcases h with rfl | ⟨_, _, _, rfl⟩ <;> rfl
theorem IrqStep.pending : t.pending = s.pending := by rcases h with rfl | ⟨_, _, _, rfl⟩ <;> rfl
theorem IrqStep.draws : t.draws = s.draws := by rcases h with rfl | ⟨_, _, _, rfl⟩ <;> rfl
theorem IrqStep.global : t.g = { s.g with irqFlag := t.g.irqFlag } := by rcases h with rfl | ⟨_, _, _, rfl⟩ <;> rfl
theorem IrqStep.voice (n : VoiceId) : t.voice n = s.voice n := by rcases h with rfl | ⟨_, _, _, rfl⟩ <;> rfl

/-- The new state is the old one with the flag and the trace replaced. -/
theorem IrqStep.eq : t = { s with g := { s.g with irqFlag := t.g.irqFlag }, trace := t.trace } := by
  rcases h with rfl | ⟨_, _, _, rfl⟩ <;> rfl

theorem IrqStep.flag_of_set (hf : s.g.irqFlag = true) : t = s := by
  rcases h with rfl | ⟨_, hf', _⟩
  · rfl
  · simp [hf] at hf'

theorem IrqStep.enabled (hi : s.g.irqFlag = true → irq9En s.g.spucnt = true) :
    t.g.irqFlag = true → irq9En t.g.spucnt = true := by
  rcases h with rfl | ⟨he, _, _, rfl⟩
  · exact hi
  · exact fun _ => he

end frame

/-! ### The unimplemented-register condition (R155) -/

theorem unimplemented_strict {p : Params} (h : p.strict = true) (kind : AccessKind) (off : Offset) (zero : Result)
    (s : State) : unimplemented p kind off zero s = { s with fault := some (.unimplementedRegister kind off) } := by
  simp [unimplemented, h, raise]

theorem unimplemented_lenient {p : Params} (h : p.strict = false) (kind : AccessKind) (off : Offset) (zero : Result)
    (s : State) :
    unimplemented p kind off zero s = { s with trace := s.trace ++ [.logUnimplemented kind off], result := zero } := by
  simp [unimplemented, h, emit, returning]

/-- No state other than the trace, or `FAULT`, changes; the result is the model's own. -/
theorem unimplemented_frame (p : Params) (kind : AccessKind) (off : Offset) (zero : Result) (s : State) :
    ∃ e tr r, unimplemented p kind off zero s = { s with fault := e, trace := tr, result := r } ∧
      (tr = s.trace ∨ tr = s.trace ++ [.logUnimplemented kind off]) := by
  cases h : p.strict
  · exact ⟨_, _, _, unimplemented_lenient h kind off zero s, .inr rfl⟩
  · exact ⟨_, _, _, unimplemented_strict h kind off zero s, .inl rfl⟩

/-! ### The acknowledge (R437) -/

theorem acknowledgeIrq_enabled (s : State) :
    (acknowledgeIrq s).g.irqFlag = true → irq9En (acknowledgeIrq s).g.spucnt = true := by
  unfold acknowledgeIrq
  split
  · rename_i h; exact fun _ => h
  · simp

theorem acknowledgeIrq_eq (s : State) :
    acknowledgeIrq s = { s with g := { s.g with irqFlag := s.g.irqFlag && irq9En s.g.spucnt } } := by
  unfold acknowledgeIrq
  split
  · rename_i h; simp [h]
  · rename_i h; simp [h]

/-! ### Masks (R36 to R38) -/

theorem maskBit_oneHot (n m : VoiceId) : maskBit (oneHot n) m = decide (m = n) := by
  have hn := n.isLt
  have hm := m.isLt
  simp only [maskBit, oneHot, BitVec.getLsbD_ofNat, Nat.testBit_two_pow, hm, decide_true, Bool.true_and]
  by_cases h : n.val = m.val
  · simp [Fin.ext h.symm]
  · have : m ≠ n := fun e => h (by rw [e])
    simp [h, this]

theorem maskBit_setMaskBit (mask : Mask) (n m : VoiceId) :
    maskBit (setMaskBit mask n) m = (decide (m = n) || maskBit mask m) := by
  have h := maskBit_oneHot n m
  simp only [maskBit] at h ⊢
  rw [setMaskBit, BitVec.getLsbD_or, h, Bool.or_comm]

theorem maskBit_clearMaskBit (mask : Mask) (n m : VoiceId) :
    maskBit (clearMaskBit mask n) m = (!decide (m = n) && maskBit mask m) := by
  have h := maskBit_oneHot n m
  simp only [maskBit] at h ⊢
  rw [clearMaskBit, BitVec.getLsbD_and, BitVec.getLsbD_not, h, Bool.and_comm]
  simp [m.isLt]

/-- Masks with the same 24 bits are equal. -/
theorem mask_ext {a b : Mask} (h : ∀ n : VoiceId, maskBit a n = maskBit b n) : a = b :=
  BitVec.eq_of_getLsbD_eq fun i hi => h ⟨i, hi⟩

/-! ### Sixteen-bit values (R10) -/

theorem sat16_range (x : Int) : -0x8000 ≤ sat16 x ∧ sat16 x ≤ 0x7FFF := by
  unfold sat16; split <;> (try split) <;> omega

/-- In range, saturation does nothing. -/
theorem sat16_of_range {x : Int} (h : -0x8000 ≤ x) (h' : x ≤ 0x7FFF) : sat16 x = x := by
  unfold sat16; split <;> (try split) <;> omega

theorem s16_range (v : Half) : -0x8000 ≤ s16 v ∧ s16 v ≤ 0x7FFF := by
  have h := BitVec.two_mul_toInt_lt (x := v)
  have h' := BitVec.le_two_mul_toInt (x := v)
  simp only [s16]; omega

/-- A value in range is recovered from its encoding. -/
theorem s16_u16 {x : Int} (h : -0x8000 ≤ x) (h' : x ≤ 0x7FFF) : s16 (u16 x) = x := by
  simp only [s16, u16, BitVec.toInt_ofInt, Int.bmod]
  omega

@[simp] theorem u16_s16 (v : Half) : u16 (s16 v) = v := by simp [s16, u16]

@[simp] theorem s16_u16_sat16 (x : Int) : s16 (u16 (sat16 x)) = sat16 x := s16_u16 (sat16_range x).1 (sat16_range x).2

end Sys2Proof.Machine
end

