-- ==== Sys2Proof/Laws/Voice.lean ====
section
/-! SUPPORT. What the operations of the voice unit can do (spec/41_voice_adpcm.md, spec/42_voice_adsr.md): which part of the
state each may change, and that each keeps a voice record in range. -/

namespace Sys2Proof.Machine

open Sys2Proof Sys2Proof.Safety

/-! ### What a rule of voice `n` may change -/

/-- Seen from the trace and the pending flag alone: nothing happened, or one interrupt was raised (R436). -/
def IrqTrace (s t : State) : Prop :=
  (t.trace = s.trace ∧ t.g.irqFlag = s.g.irqFlag) ∨
    (irq9En s.g.spucnt = true ∧ s.g.irqFlag = false ∧ t.g.irqFlag = true ∧
      ∃ source, t.trace = s.trace ++ [.irq9 source])

theorem IrqTrace.trans {s t u : State} (hs : t.g.spucnt = s.g.spucnt) (h : IrqTrace s t) (h' : IrqTrace t u) :
    IrqTrace s u := by
  rcases h with ⟨h1, h2⟩ | ⟨h1, h2, h3, h4⟩
  · rcases h' with ⟨h5, h6⟩ | ⟨h5, h6, h7, src, h8⟩
    · exact .inl ⟨h5.trans h1, h6.trans h2⟩
    · exact .inr ⟨hs ▸ h5, h2 ▸ h6, h7, src, by rw [h8, h1]⟩
  · rcases h' with ⟨h5, h6⟩ | ⟨_, h6, _⟩
    · exact .inr ⟨h1, h2, h6.trans h3, by rw [h5]; exact h4⟩
    · rw [h3] at h6; cases h6

theorem IrqStep.toTrace {s t : State} (h : IrqStep s t) : IrqTrace s t := by
  rcases h with rfl | ⟨he, hf, src, rfl⟩
  · exact .inl ⟨rfl, rfl⟩
  · exact .inr ⟨he, hf, rfl, src, rfl⟩

/-- What the rules of voice `n` may change: its own record, its ENDX bit, the pending flag and the trace through one
interrupt, `FAULT` and the noise draws; Sound RAM and everything else stays. -/
structure VoiceChange (n : VoiceId) (s t : State) : Prop where
  others : ∀ m : VoiceId, m ≠ n → t.voice m = s.voice m
  ram : t.ram = s.ram
  rv : t.rv = s.rv
  cdq : t.cdq = s.cdq
  out : t.out = s.out
  result : t.result = s.result
  pending : t.pending = s.pending
  global : t.g = { s.g with endx := t.g.endx, irqFlag := t.g.irqFlag }
  endx : ∀ m : VoiceId, m ≠ n → maskBit t.g.endx m = maskBit s.g.endx m
  irq : IrqTrace s t

theorem VoiceChange.spucnt {n : VoiceId} {s t : State} (h : VoiceChange n s t) : t.g.spucnt = s.g.spucnt := by
  rw [h.global]

theorem VoiceChange.refl (n : VoiceId) (s : State) : VoiceChange n s s :=
  ⟨fun _ _ => rfl, rfl, rfl, rfl, rfl, rfl, rfl, rfl, fun _ _ => rfl, .inl ⟨rfl, rfl⟩⟩

theorem VoiceChange.trans {n : VoiceId} {s t u : State} (h : VoiceChange n s t) (h' : VoiceChange n t u) :
    VoiceChange n s u where
  others m hm := (h'.others m hm).trans (h.others m hm)
  ram := h'.ram.trans h.ram
  rv := h'.rv.trans h.rv
  cdq := h'.cdq.trans h.cdq
  out := h'.out.trans h.out
  result := h'.result.trans h.result
  pending := h'.pending.trans h.pending
  global := by rw [h'.global, h.global]
  endx m hm := (h'.endx m hm).trans (h.endx m hm)
  irq := IrqTrace.trans h.spucnt h.irq h'.irq

theorem VoiceChange.setVoice (n : VoiceId) (s : State) (v : Voice) : VoiceChange n s (s.setVoice n v) :=
  ⟨fun _ hm => voice_setVoice_ne s v hm, rfl, rfl, rfl, rfl, rfl, rfl, rfl, fun _ _ => rfl, .inl ⟨rfl, rfl⟩⟩

theorem VoiceChange.setEndx (n : VoiceId) (s : State) : VoiceChange n s (setEndx n s) :=
  ⟨fun _ _ => rfl, rfl, rfl, rfl, rfl, rfl, rfl, rfl,
    fun m hm => by simp [maskBit_setMaskBit, hm], .inl ⟨rfl, rfl⟩⟩

theorem VoiceChange.clearEndx (n : VoiceId) (s : State) : VoiceChange n s (clearEndx n s) :=
  ⟨fun _ _ => rfl, rfl, rfl, rfl, rfl, rfl, rfl, rfl,
    fun m hm => by simp [maskBit_clearMaskBit, hm], .inl ⟨rfl, rfl⟩⟩

theorem VoiceChange.raise (n : VoiceId) (e : BlockError) (s : State) : VoiceChange n s (raise e s) :=
  ⟨fun _ _ => rfl, rfl, rfl, rfl, rfl, rfl, rfl, rfl, fun _ _ => rfl, .inl ⟨rfl, rfl⟩⟩

theorem VoiceChange.draw (n : VoiceId) (s : State) (k : Nat) : VoiceChange n s { s with draws := k } :=
  ⟨fun _ _ => rfl, rfl, rfl, rfl, rfl, rfl, rfl, rfl, fun _ _ => rfl, .inl ⟨rfl, rfl⟩⟩

theorem IrqStep.voiceChange {s t : State} (h : IrqStep s t) (n : VoiceId) : VoiceChange n s t where
  others m _ := h.voice m
  ram := h.ram
  rv := h.rv
  cdq := h.cdq
  out := h.out
  result := h.result
  pending := h.pending
  global := by rw [h.global]
  endx m _ := by rw [h.global]
  irq := h.toTrace

/-! ### Each operation -/

theorem keyOn_change (n : VoiceId) (s : State) : VoiceChange n s (keyOn n s) :=
  (VoiceChange.setVoice n s _).trans (VoiceChange.clearEndx n _)

theorem keyOn_fault (n : VoiceId) (s : State) : (keyOn n s).fault = s.fault := rfl

theorem keyOff_change (n : VoiceId) (s : State) : VoiceChange n s (keyOff n s) := by
  unfold keyOff
  split
  · exact VoiceChange.refl n s
  · exact VoiceChange.setVoice n s _

theorem keyOff_fault (n : VoiceId) (s : State) : (keyOff n s).fault = s.fault := by
  unfold keyOff; split <;> rfl

theorem keyOff_global (n : VoiceId) (s : State) : (keyOff n s).g = s.g := by
  unfold keyOff; split <;> rfl

/-- The voice record after a decode (R274). -/
def loadedVoice (s : State) (n : VoiceId) : Voice :=
  let v := s.voice n
  let flg := memRead1 s (v.cur.toNat + 1)
  { v with
    hist := #v[v.buf[25], v.buf[26], v.buf[27]]
    buf := decodedSamples s v.cur (memRead1 s v.cur.toNat) (s16 v.buf[27]) (s16 v.buf[26])
    blkFlags := flg
    repeatAddr := if loopStartFlag flg then repeatOf v.cur else v.repeatAddr
    isLoaded := true }

theorem signalIrq_setVoice (source : IrqSource) (m : VoiceId) (v : Voice) (s : State) :
    signalIrq source (s.setVoice m v) = (signalIrq source s).setVoice m v := by
  unfold signalIrq
  rw [apply_ite (fun t : State => t.setVoice m v)]
  rfl

theorem voiceIrqCheck_setVoice (n m : VoiceId) (block : RamAddr) (v : Voice) (s : State) :
    voiceIrqCheck n block (s.setVoice m v) = (voiceIrqCheck n block s).setVoice m v := by
  unfold voiceIrqCheck
  rw [apply_ite (fun t : State => t.setVoice m v), signalIrq_setVoice]
  rfl

/-- A decode with an accepted header is the loaded record and the interrupt check, in either order. -/
theorem loadBlock_eq (n : VoiceId) (s : State) :
    loadBlock n s = voiceIrqCheck n (s.voice n).cur (s.setVoice n (loadedVoice s n)) := by
  unfold loadBlock
  simp only [voiceIrqCheck_setVoice, voice_setVoice_self, setVoice_setVoice]
  rfl

theorem loadBlock_change (n : VoiceId) (s : State) : VoiceChange n s (loadBlock n s) := by
  rw [loadBlock_eq]
  exact (VoiceChange.setVoice n s _).trans ((voiceIrqCheck_step n _ _).voiceChange n)

theorem loadBlock_voice (n : VoiceId) (s : State) : (loadBlock n s).voice n = loadedVoice s n := by
  rw [loadBlock_eq, (voiceIrqCheck_step n _ _).voice]; simp

theorem loadBlock_fault (n : VoiceId) (s : State) : (loadBlock n s).fault = s.fault := by
  rw [loadBlock_eq, (voiceIrqCheck_step n _ _).fault]; rfl

/-- A reserved header ends the decode before anything of the voice is written (R279). -/
theorem decodeBlock_cases (n : VoiceId) (s : State) :
    (LegalHeader (memRead1 s (s.voice n).cur.toNat) ∧ decodeBlock n s = loadBlock n s) ∨
    (¬ LegalHeader (memRead1 s (s.voice n).cur.toNat) ∧
      ∃ e, decodeBlock n s = raise e s ∧
        (e = .adpcmHeaderBit6 n (s.voice n).cur ∨ e = .adpcmShift n (s.voice n).cur)) := by
  unfold decodeBlock
  by_cases h6 : hdrReserved (memRead1 s (s.voice n).cur.toNat) = true
  · right
    simp only [h6, if_true]
    exact ⟨fun h => by simp [h.1] at h6, _, rfl, .inl rfl⟩
  · have h6' : hdrReserved (memRead1 s (s.voice n).cur.toNat) = false := by simpa using h6
    by_cases hs : 12 < hdrShift (memRead1 s (s.voice n).cur.toNat)
    · right
      simp only [h6', hs, if_true]
      exact ⟨fun h => by have := h.2; omega, _, rfl, .inr rfl⟩
    · left
      simp only [h6', hs, if_false]
      exact ⟨⟨h6', by omega⟩, by simp⟩

theorem decodeBlock_change (n : VoiceId) (s : State) : VoiceChange n s (decodeBlock n s) := by
  rcases decodeBlock_cases n s with ⟨_, h⟩ | ⟨_, e, h, _⟩
  · rw [h]; exact loadBlock_change n s
  · rw [h]; exact VoiceChange.raise n e s

theorem loopEnd_change (n : VoiceId) (s : State) : VoiceChange n s (loopEnd n s) := by
  unfold loopEnd
  simp only
  split <;> exact (VoiceChange.setEndx n s).trans (VoiceChange.setVoice n _ _)

theorem loopEnd_fault (n : VoiceId) (s : State) : (loopEnd n s).fault = s.fault := by
  unfold loopEnd; simp only; split <;> rfl

theorem blockBoundary_change (n : VoiceId) (s : State) : VoiceChange n s (blockBoundary n s) := by
  unfold blockBoundary
  simp only
  split
  · exact (VoiceChange.setVoice n s _).trans (loopEnd_change n _)
  · exact VoiceChange.setVoice n s _

theorem blockBoundary_fault (n : VoiceId) (s : State) : (blockBoundary n s).fault = s.fault := by
  unfold blockBoundary; simp only; split
  · rw [loopEnd_fault]; rfl
  · rfl

theorem pitchAdvance_change (n : VoiceId) (step : Nat) (s : State) : VoiceChange n s (pitchAdvance n step s) := by
  unfold pitchAdvance
  simp only
  split
  · exact (VoiceChange.setVoice n s _).trans (blockBoundary_change n _)
  · exact VoiceChange.setVoice n s _

theorem pitchAdvance_fault (n : VoiceId) (step : Nat) (s : State) : (pitchAdvance n step s).fault = s.fault := by
  unfold pitchAdvance; simp only; split
  · rw [blockBoundary_fault]; rfl
  · rfl

theorem adsrTick_change (n : VoiceId) (s : State) : VoiceChange n s (adsrTick n s) := VoiceChange.setVoice n s _

theorem rawSample_change (p : Params) (n : VoiceId) (s : State) : VoiceChange n s (rawSample p n s).2 := by
  unfold rawSample
  split
  · exact VoiceChange.draw n s _
  · exact VoiceChange.refl n s

theorem rawSample_fault (p : Params) (n : VoiceId) (s : State) : (rawSample p n s).2.fault = s.fault := by
  unfold rawSample; split <;> rfl

theorem rawSample_voice (p : Params) (n m : VoiceId) (s : State) : (rawSample p n s).2.voice m = s.voice m := by
  unfold rawSample; split <;> rfl

theorem offVoice_change (n : VoiceId) (s : State) : VoiceChange n s (offVoice n s) := VoiceChange.setVoice n s _

theorem ensureLoaded_change (n : VoiceId) (s : State) : VoiceChange n s (ensureLoaded n s) := by
  unfold ensureLoaded
  split
  · exact VoiceChange.refl n s
  · exact decodeBlock_change n s

theorem voiceOutput_change (p : Params) (n : VoiceId) (s : State) : VoiceChange n s (voiceOutput p n s).2 := by
  unfold voiceOutput
  exact (((rawSample_change p n s).trans (pitchAdvance_change n _ _)).trans (adsrTick_change n _)).trans
    (VoiceChange.setVoice n _ _)

theorem voiceOutput_fault (p : Params) (n : VoiceId) (s : State) : (voiceOutput p n s).2.fault = s.fault := by
  unfold voiceOutput
  simp only [setVoice_fault, adsrTick, pitchAdvance_fault, rawSample_fault]

theorem voiceStep_change (p : Params) (n : VoiceId) (s : State) : VoiceChange n s (voiceStep p n s).2 := by
  unfold voiceStep
  split
  · exact offVoice_change n s
  · simp only
    split
    · exact ensureLoaded_change n s
    · exact (ensureLoaded_change n s).trans (voiceOutput_change p n _)

/-- A voice step of an unfaulted block faults exactly when it has to decode a block with a reserved header (R279). -/
theorem voiceStep_noError_iff (p : Params) (n : VoiceId) {s : State} (h : NoError s) :
    NoError (voiceStep p n s).2 ↔
      (NeedsDecode (s.voice n) → LegalHeader (memRead1 s (s.voice n).cur.toNat)) := by
  unfold voiceStep NeedsDecode ensureLoaded
  by_cases hp : (s.voice n).phase = .off
  · simp [hp, offVoice, NoError, h]
  · simp only [hp, if_false, ne_eq, not_false_eq_true, true_and]
    by_cases hl : (s.voice n).isLoaded = true
    · simp [hl, faulted_of_noError h, NoError, voiceOutput_fault, h]
    · have hl' : (s.voice n).isLoaded = false := by simpa using hl
      simp only [hl', Bool.false_eq_true, if_false, true_implies]
      rcases decodeBlock_cases n s with ⟨hh, hd⟩ | ⟨hh, e, hd, _⟩
      · have hf : (loadBlock n s).fault = none := by rw [loadBlock_fault]; exact h
        simp [hd, hh, faulted, hf, NoError, voiceOutput_fault]
      · simp [hd, hh, raise, faulted, NoError]

/-! ### Keeping a voice in range (R27, R29, R30, R35) -/

theorem VoiceOk.reset : VoiceOk Voice.reset := ⟨by decide, by decide, by decide, by decide⟩

theorem cursorOf_toNat (a : Half) : (cursorOf a).toNat = a.toNat * 8 := by
  have := a.isLt
  simp [cursorOf, byteAddr]; omega

theorem keyOn_voice (n : VoiceId) (s : State) :
    (keyOn n s).voice n =
      { s.voice n with
        cur := cursorOf (s.voice n).startAddr
        pcount := 0
        buf := Vector.replicate 28 0
        hist := Vector.replicate 3 0
        blkFlags := 0
        isLoaded := false
        envLevel := 0
        adsrWait := 0
        phase := .attack } := by
  simp [keyOn]

theorem keyOn_ok (n : VoiceId) (s : State) : VoiceOk ((keyOn n s).voice n) := by
  rw [keyOn_voice]
  exact ⟨by simp, by simp [cursorOf_toNat], by simp, by simp⟩

theorem keyOff_voice (n : VoiceId) (s : State) :
    (keyOff n s).voice n =
      if (s.voice n).phase = .off then s.voice n else { s.voice n with phase := .release, adsrWait := 0 } := by
  unfold keyOff; split <;> simp

theorem keyOff_ok {n : VoiceId} {s : State} (h : VoiceOk (s.voice n)) : VoiceOk ((keyOff n s).voice n) := by
  rw [keyOff_voice]; split
  · exact h
  · exact ⟨h.level, h.cursor, h.position, by simp⟩

theorem decodeBlock_ok {n : VoiceId} {s : State} (h : VoiceOk (s.voice n)) : VoiceOk ((decodeBlock n s).voice n) := by
  rcases decodeBlock_cases n s with ⟨_, hd⟩ | ⟨_, e, hd, _⟩
  · rw [hd, loadBlock_voice]; exact ⟨h.level, h.cursor, h.position, h.wait⟩
  · rw [hd]; exact h

/-! The envelope generator -/

theorem clampLevel_range (x : Int) : 0 ≤ clampLevel x ∧ clampLevel x ≤ 0x7FFF := by
  unfold clampLevel; omega

theorem u16_toNat {x : Int} (h : 0 ≤ x) (h' : x ≤ 0x7FFF) : (u16 x).toNat = x.toNat := by
  simp only [u16, BitVec.toNat_ofInt]; omega

theorem u16_clampLevel_toNat (x : Int) : (u16 (clampLevel x)).toNat ≤ 0x7FFF := by
  have h := clampLevel_range x
  rw [u16_toNat h.1 h.2]; omega

theorem rateCycles_le {shift : Nat} (h : shift ≤ 31) : rateCycles shift ≤ 2 ^ 20 := by
  unfold rateCycles; exact Nat.pow_le_pow_right (by decide) (by omega)

theorem rateCycles_pos (shift : Nat) : 0 < rateCycles shift := Nat.pow_pos (by decide)

theorem phaseParams_shift (ph : Phase) (lo hi : Half) : (phaseParams ph lo hi).shift ≤ 31 := by
  have h1 := (lo.extractLsb' 10 5).isLt
  have h2 := (lo.extractLsb' 4 4).isLt
  have h3 := (hi.extractLsb' 8 5).isLt
  have h4 := (hi.extractLsb' 0 5).isLt
  cases ph <;> simp only [phaseParams, attackShift, decayShift, sustainShift, releaseShift] <;> omega

theorem nextPhase_ok {v : Voice} (h : VoiceOk v) : VoiceOk (nextPhase v) := by
  unfold nextPhase
  split
  · exact ⟨h.level, h.cursor, h.position, by simp⟩
  · exact ⟨h.level, h.cursor, h.position, by simp⟩
  · exact ⟨by simp, h.cursor, h.position, by simp⟩
  · exact h
  · exact h

theorem adsrVoice_ok {v : Voice} (h : VoiceOk v) : VoiceOk (adsrVoice v) := by
  unfold adsrVoice
  split
  · exact ⟨by simp, h.cursor, h.position, h.wait⟩
  · split
    · exact ⟨h.level, h.cursor, h.position, by have := h.wait; simp only; omega⟩
    · unfold adsrUpdate
      have hw := rateCycles_le (phaseParams_shift v.phase v.adsrLo v.adsrHi)
      have hp := rateCycles_pos (phaseParams v.phase v.adsrLo v.adsrHi).shift
      have hok : VoiceOk { v with
          envLevel := u16 (clampLevel (s16 v.envLevel +
            scaledStep (phaseParams v.phase v.adsrLo v.adsrHi) (s16 v.envLevel)))
          adsrWait := rateCycles (phaseParams v.phase v.adsrLo v.adsrHi).shift - 1 } :=
        ⟨u16_clampLevel_toNat _, h.cursor, h.position, by simp only; omega⟩
      simp only
      split
      · exact nextPhase_ok hok
      · exact hok

theorem adsrTick_voice (n : VoiceId) (s : State) : (adsrTick n s).voice n = adsrVoice (s.voice n) := by
  simp [adsrTick]

/-! The pitch counter -/

theorem sampleIndex_eq (p : BitVec 17) : sampleIndex p = p.toNat / 0x1000 := by
  have := p.isLt
  simp only [sampleIndex, BitVec.extractLsb'_toNat, Nat.shiftRight_eq_div_pow]
  omega

theorem fraction_eq (p : BitVec 17) : (fraction p).toNat = p.toNat % 0x1000 := by
  simp [fraction]

/-- The effective step is at most the cap (R285). -/
theorem effectiveStep_le (n : VoiceId) (s : State) : effectiveStep n s ≤ 0x4000 := by
  have key : ∀ step : Int, (if 0x4000 < step then 0x4000 else step.toNat) ≤ 0x4000 := by
    intro step; split <;> omega
  exact key _

theorem loopEnd_voice (n : VoiceId) (s : State) :
    (loopEnd n s).voice n =
      if loopRepeatFlag (s.voice n).blkFlags then { s.voice n with cur := cursorOf (s.voice n).repeatAddr }
      else { s.voice n with phase := .off, envLevel := 0, adsrWait := 0 } := by
  unfold loopEnd
  by_cases h : loopRepeatFlag (s.voice n).blkFlags = true <;> simp [h]

theorem loopEnd_ok {n : VoiceId} {s : State} (h : VoiceOk (s.voice n)) : VoiceOk ((loopEnd n s).voice n) := by
  rw [loopEnd_voice]; split
  · exact ⟨h.level, by simp [cursorOf_toNat], h.position, h.wait⟩
  · exact ⟨by simp, h.cursor, h.position, by simp⟩

/-- Below one block plus four samples, the crossing brings the counter back into the block. -/
theorem pitchAdvance_ok {n : VoiceId} {s : State} {step : Nat} (h : VoiceOk (s.voice n)) (hs : step ≤ 0x4000) :
    VoiceOk ((pitchAdvance n step s).voice n) := by
  have hp := h.position
  have hsum : ((s.voice n).pcount + BitVec.ofNat 17 step).toNat = (s.voice n).pcount.toNat + step := by
    rw [BitVec.toNat_add, BitVec.toNat_ofNat]; omega
  unfold pitchAdvance
  simp only [sampleIndex_eq, hsum]
  split
  · rename_i hge
    have hsub : ((s.voice n).pcount + BitVec.ofNat 17 step - 0x1C000#17).toNat < 0x1C000 := by
      rw [BitVec.toNat_sub, hsum]; simp only [BitVec.toNat_ofNat]; omega
    have hcur : ((s.voice n).cur + 16).toNat % 8 = 0 := by
      have hc := h.cursor
      have h16 : (16 : RamAddr).toNat = 16 := rfl
      rw [BitVec.toNat_add, h16]; omega
    unfold blockBoundary
    simp only [voice_setVoice_self, setVoice_setVoice]
    split
    · exact loopEnd_ok (by simp only [voice_setVoice_self]; exact ⟨h.level, hcur, hsub, h.wait⟩)
    · simp only [voice_setVoice_self]; exact ⟨h.level, hcur, hsub, h.wait⟩
  · rename_i hlt
    simp only [voice_setVoice_self]
    exact ⟨h.level, h.cursor, by rw [hsum]; omega, h.wait⟩

theorem offVoice_ok {n : VoiceId} {s : State} (h : VoiceOk (s.voice n)) : VoiceOk ((offVoice n s).voice n) := by
  simp only [offVoice, voice_setVoice_self]; exact ⟨by simp, h.cursor, h.position, h.wait⟩

theorem voiceOutput_ok {p : Params} {n : VoiceId} {s : State} (h : VoiceOk (s.voice n)) :
    VoiceOk ((voiceOutput p n s).2.voice n) := by
  unfold voiceOutput
  simp only [voice_setVoice_self, adsrTick_voice]
  have h1 : VoiceOk ((rawSample p n s).2.voice n) := by rw [rawSample_voice]; exact h
  have h2 := adsrVoice_ok (pitchAdvance_ok h1 (effectiveStep_le n (rawSample p n s).2))
  exact ⟨h2.level, h2.cursor, h2.position, h2.wait⟩

theorem voiceStep_ok {p : Params} {n : VoiceId} {s : State} (h : VoiceOk (s.voice n)) :
    VoiceOk ((voiceStep p n s).2.voice n) := by
  have hl : VoiceOk ((ensureLoaded n s).voice n) := by
    unfold ensureLoaded; split
    · exact h
    · exact decodeBlock_ok h
  unfold voiceStep
  split
  · exact offVoice_ok h
  · simp only
    split
    · exact hl
    · exact voiceOutput_ok hl

end Sys2Proof.Machine
end

