-- ==== Sys2Proof/Laws/Reverb.lean ====
section
/-! SUPPORT. What the reverb processor can do (spec/44_reverb.md R380 to R397): where its addresses lie, which part of the state
each of its operations may change, which access raises the interrupt, and the range of every value it computes. -/

namespace Sys2Proof.Machine

open Sys2Proof Sys2Proof.Safety

/-! ### Addresses (R381) -/

theorem and_even_toNat (x : RamAddr) : (x &&& 0x7FFFE#19).toNat = x.toNat / 2 * 2 := by
  have hb : x &&& 0x7FFFE#19 = (x >>> 1) <<< 1 := by
    refine BitVec.eq_of_getLsbD_eq fun i hi => ?_
    interval_cases i <;> simp [BitVec.getLsbD_eq_getElem]
  have := x.isLt
  rw [hb]
  simp only [BitVec.toNat_shiftLeft, BitVec.toNat_ushiftRight, Nat.shiftRight_eq_div_pow, Nat.shiftLeft_eq]
  omega

/-- The address before it is forced even: inside the work area (R381). -/
theorem revAddr_area (s : State) (off : Int) :
    (byteAddr s.g.mBASE : Int) ≤
        byteAddr s.g.mBASE + (s.g.revCur.toNat - byteAddr s.g.mBASE + off) % (0x80000 - byteAddr s.g.mBASE) ∧
      byteAddr s.g.mBASE + (s.g.revCur.toNat - byteAddr s.g.mBASE + off) % (0x80000 - byteAddr s.g.mBASE) < 0x80000 := by
  have hb : byteAddr s.g.mBASE ≤ 0x7FFF8 := by
    have := s.g.mBASE.isLt; unfold byteAddr; omega
  have h1 := Int.emod_nonneg (s.g.revCur.toNat - byteAddr s.g.mBASE + off)
    (show (0x80000 - byteAddr s.g.mBASE : Int) ≠ 0 by omega)
  have h2 := Int.emod_lt_of_pos (s.g.revCur.toNat - byteAddr s.g.mBASE + off)
    (show (0 : Int) < 0x80000 - byteAddr s.g.mBASE by omega)
  omega

/-- The address as a number: the place in the work area, rounded down to even. -/
theorem revAddr_toNat (s : State) (off : Int) :
    (revAddr s off).toNat =
      (byteAddr s.g.mBASE + (s.g.revCur.toNat - byteAddr s.g.mBASE + off) % (0x80000 - byteAddr s.g.mBASE)).toNat /
        2 * 2 := by
  have h := revAddr_area s off
  unfold revAddr
  rw [show (0x7FFFE : RamAddr) = 0x7FFFE#19 from rfl, and_even_toNat]
  simp only [BitVec.toNat_ofInt]
  omega

/-- "Every resolved address lies in [base, 0x7FFFE]" and is even (R381). -/
theorem revAddr_range (s : State) (off : Int) :
    byteAddr s.g.mBASE ≤ (revAddr s off).toNat ∧ (revAddr s off).toNat ≤ 0x7FFFE ∧ (revAddr s off).toNat % 2 = 0 := by
  have h := revAddr_area s off
  have hb : byteAddr s.g.mBASE % 8 = 0 := by unfold byteAddr; omega
  rw [revAddr_toNat]
  omega

/-- The address depends on the base and the cursor alone. -/
theorem revAddr_congr {s t : State} (hb : t.g.mBASE = s.g.mBASE) (hc : t.g.revCur = s.g.revCur) (off : Int) :
    revAddr t off = revAddr s off := by simp [revAddr, hb, hc]

/-! ### What the processor may change -/

/-- Sound RAM inside the work area when reverb writes are enabled, the pending flag and the trace through one interrupt, and
the reverb cursor. -/
structure ReverbChange (s t : State) : Prop where
  voices : t.voices = s.voices
  rv : t.rv = s.rv
  cdq : t.cdq = s.cdq
  out : t.out = s.out
  fault : t.fault = s.fault
  result : t.result = s.result
  pending : t.pending = s.pending
  draws : t.draws = s.draws
  global : t.g = { s.g with irqFlag := t.g.irqFlag, revCur := t.g.revCur }
  irq : IrqTrace s t
  wf : Memory.wf s.ram = true → Memory.wf t.ram = true
  dropped : revWriteEn s.g.spucnt = false → t.ram = s.ram
  below : Memory.wf s.ram = true → ∀ a, a < byteAddr s.g.mBASE → memRead1 t a = memRead1 s a

theorem ReverbChange.spucnt {s t : State} (h : ReverbChange s t) : t.g.spucnt = s.g.spucnt := by rw [h.global]

theorem ReverbChange.mBASE {s t : State} (h : ReverbChange s t) : t.g.mBASE = s.g.mBASE := by rw [h.global]

theorem ReverbChange.refl (s : State) : ReverbChange s s :=
  ⟨rfl, rfl, rfl, rfl, rfl, rfl, rfl, rfl, rfl, .inl ⟨rfl, rfl⟩, id, fun _ => rfl, fun _ _ _ => rfl⟩

theorem ReverbChange.trans {s t u : State} (h : ReverbChange s t) (h' : ReverbChange t u) : ReverbChange s u where
  voices := h'.voices.trans h.voices
  rv := h'.rv.trans h.rv
  cdq := h'.cdq.trans h.cdq
  out := h'.out.trans h.out
  fault := h'.fault.trans h.fault
  result := h'.result.trans h.result
  pending := h'.pending.trans h.pending
  draws := h'.draws.trans h.draws
  global := by rw [h'.global, h.global]
  irq := IrqTrace.trans h.spucnt h.irq h'.irq
  wf hw := h'.wf (h.wf hw)
  dropped hd := (h'.dropped (by rw [h.spucnt]; exact hd)).trans (h.dropped hd)
  below hw a ha := (h'.below (h.wf hw) a (by rw [h.mBASE]; exact ha)).trans (h.below hw a ha)

theorem IrqStep.reverbChange {s t : State} (h : IrqStep s t) : ReverbChange s t where
  voices := h.voices
  rv := h.rv
  cdq := h.cdq
  out := h.out
  fault := h.fault
  result := h.result
  pending := h.pending
  draws := h.draws
  global := by rw [h.global]
  irq := h.toTrace
  wf hw := by rw [h.ram]; exact hw
  dropped _ := h.ram
  below _ a _ := memRead1_congr h.ram a

theorem revRead_change (off : Int) (s : State) : ReverbChange s (revRead off s).2 :=
  (cellIrqCheck_step _ s).reverbChange

theorem revWrite_change (off v : Int) (s : State) : ReverbChange s (revWrite off v s) := by
  unfold revWrite
  split
  · rename_i hen
    have hs := cellIrqCheck_step (revAddr s off) s
    refine hs.reverbChange.trans
      ⟨rfl, rfl, rfl, rfl, rfl, rfl, rfl, rfl, rfl, .inl ⟨rfl, rfl⟩, fun hw => memWrite2_wf hw _ _, ?_, ?_⟩
    · intro hd
      rw [hs.global] at hd
      simp [hen] at hd
    · intro hw a ha
      have hr := revAddr_range s off
      rw [hs.global] at ha
      simp only at ha
      rw [memRead1_memWrite2 hw]
      have h1 : ¬ a % 0x80000 = ((revAddr s off).toNat + 1) % 0x80000 := by omega
      have h2 : ¬ a % 0x80000 = (revAddr s off).toNat % 0x80000 := by omega
      simp [h1, h2]
  · exact ReverbChange.refl s

theorem reflect_change (vWALL vIIR m d : Half) (xin : Int) (s : State) :
    ReverbChange s (reflect vWALL vIIR m d xin s) :=
  ((revRead_change _ s).trans (revRead_change _ _)).trans (revWrite_change _ _ _)

theorem comb_change (rv : ReverbRegs) (c : ChannelRegs) (s : State) : ReverbChange s (comb rv c s).2 :=
  (((revRead_change _ s).trans (revRead_change _ _)).trans (revRead_change _ _)).trans (revRead_change _ _)

theorem allPass_change (v m d : Half) (x : Int) (s : State) : ReverbChange s (allPass v m d x s).2 :=
  (revRead_change _ s).trans (revWrite_change _ _ _)

theorem channel_change (c : ChannelRegs) (input : Int) (s : State) : ReverbChange s (channel c input s).2 := by
  let xin := gain input c.vIN
  let s1 := reflect s.rv.vWALL s.rv.vIIR c.mSAME c.dSAME xin s
  let s2 := reflect s.rv.vWALL s.rv.vIIR c.mDIFF c.dDIFF xin s1
  have h1 : ReverbChange s s1 := reflect_change _ _ _ _ _ _
  have h2 : ReverbChange s s2 := h1.trans (reflect_change _ _ _ _ _ _)
  have h3 := h2.trans (comb_change s.rv c s2)
  have h4 := h3.trans (allPass_change s.rv.vAPF1 c.mAPF1 s.rv.dAPF1 (comb s.rv c s2).1 (comb s.rv c s2).2)
  exact h4.trans (allPass_change s.rv.vAPF2 c.mAPF2 s.rv.dAPF2 _ _)

/-- All offsets of an invocation are relative to one cursor value: no operation before the advance moves it (R391). -/
theorem revRead_cursor (off : Int) (s : State) : (revRead off s).2.g.revCur = s.g.revCur := by
  show (cellIrqCheck _ s).g.revCur = _
  rw [(cellIrqCheck_step _ s).global]

theorem revWrite_cursor (off v : Int) (s : State) : (revWrite off v s).g.revCur = s.g.revCur := by
  unfold revWrite
  split
  · show (cellIrqCheck _ s).g.revCur = _
    rw [(cellIrqCheck_step _ s).global]
  · rfl

theorem reflect_cursor (vWALL vIIR m d : Half) (xin : Int) (s : State) :
    (reflect vWALL vIIR m d xin s).g.revCur = s.g.revCur := by
  unfold reflect
  simp only [revWrite_cursor, revRead_cursor]

theorem comb_cursor (rv : ReverbRegs) (c : ChannelRegs) (s : State) : (comb rv c s).2.g.revCur = s.g.revCur := by
  unfold comb
  simp only [revRead_cursor]

theorem allPass_cursor (v m d : Half) (x : Int) (s : State) : (allPass v m d x s).2.g.revCur = s.g.revCur := by
  unfold allPass
  simp only [revWrite_cursor, revRead_cursor]

theorem channel_cursor (c : ChannelRegs) (input : Int) (s : State) : (channel c input s).2.g.revCur = s.g.revCur := by
  unfold channel
  simp only [allPass_cursor, comb_cursor, reflect_cursor]

theorem cursorAdvance_change (s : State) : ReverbChange s (cursorAdvance s) :=
  ⟨rfl, rfl, rfl, rfl, rfl, rfl, rfl, rfl, rfl, .inl ⟨rfl, rfl⟩, id, fun _ => rfl, fun _ _ _ => rfl⟩

theorem reverb_change (inL inR : Int) (s : State) : ReverbChange s (reverb inL inR s).2 :=
  ((channel_change _ inL s).trans (channel_change _ inR _)).trans (cursorAdvance_change _)

/-- The cursor after an invocation (R392). -/
theorem reverb_cursor (inL inR : Int) (s : State) :
    (reverb inL inR s).2.g.revCur =
      if 0x7FFFF < s.g.revCur.toNat + 2 then cursorOf s.g.mBASE else BitVec.ofNat 19 (s.g.revCur.toNat + 2) := by
  have h := (channel_change (leftRegs s.rv) inL s).trans
    (channel_change (rightRegs s.rv) inR (channel (leftRegs s.rv) inL s).2)
  unfold reverb
  simp only [cursorAdvance, channel_cursor, h.mBASE]

/-- The cursor stays in the work area and even (R46, R57 I-c, I-d). -/
theorem advance_range {base cur : Nat} (hb : base % 8 = 0) (hhi : base ≤ 0x7FFF8) (h1 : base ≤ cur) (h2 : cur ≤ 0x7FFFE)
    (h3 : cur % 2 = 0) (next : Nat) (hn : next = if 0x7FFFF < cur + 2 then base else cur + 2) :
    base ≤ next ∧ next ≤ 0x7FFFE ∧ next % 2 = 0 := by
  subst hn; split <;> omega

/-! ### Which access raises the interrupt (R382, R383, R391, R438) -/

/-- From `s` to `t` the cells at `l` were checked in order: the first that matches the IRQ address signals, if any does. -/
structure CellChecks (l : List RamAddr) (s t : State) : Prop where
  spucnt : t.g.spucnt = s.g.spucnt
  irqAddr : t.g.irqAddr = s.g.irqAddr
  hit : ∀ a, l.find? (irqCell s) = some a → Checked True (.cell a) s t
  miss : l.find? (irqCell s) = none → t.g.irqFlag = s.g.irqFlag ∧ t.trace = s.trace

/-- A match is looked for in the IRQ address alone. -/
theorem irqCell_congr {s t : State} (h : t.g.irqAddr = s.g.irqAddr) : irqCell t = irqCell s := by
  funext a; simp [irqCell, h]

/-- The match of `CellIrqCheck`, in numbers (R438). -/
theorem irqCell_iff (s : State) (a : RamAddr) : irqCell s a = true ↔ a = irqByte s ∨ a = irqByte s - 2 := by
  have ha := a.isLt
  have hi := s.g.irqAddr.isLt
  simp only [irqCell, Bool.or_eq_true, decide_eq_true_eq, irqByte, BitVec.toNat_eq, BitVec.toNat_sub, cursorOf_toNat]
  have h2 : (2 : RamAddr).toNat = 2 := rfl
  omega

/-- Checks of a state that cannot raise the interrupt change nothing. -/
theorem CellChecks.quiet {l : List RamAddr} {s t : State} (h : CellChecks l s t)
    (hq : ¬ (irq9En s.g.spucnt = true ∧ s.g.irqFlag = false)) : t.g.irqFlag = s.g.irqFlag ∧ t.trace = s.trace := by
  cases hl : l.find? (irqCell s) with
  | none => exact h.miss hl
  | some a => exact (h.hit a hl).2 fun hx => hq hx.2

/-- A change of nothing that a check reads or writes. -/
theorem CellChecks.of_same {s t : State} (hg : t.g.spucnt = s.g.spucnt) (ha : t.g.irqAddr = s.g.irqAddr)
    (hf : t.g.irqFlag = s.g.irqFlag) (ht : t.trace = s.trace) : CellChecks [] s t :=
  ⟨hg, ha, fun _ h => by simp at h, fun _ => ⟨hf, ht⟩⟩

/-- Checks made one after the other: the flag that the first match set holds off the later ones. -/
theorem CellChecks.append {l l' : List RamAddr} {s t u : State} (h : CellChecks l s t) (h' : CellChecks l' t u) :
    CellChecks (l ++ l') s u := by
  have hc := irqCell_congr h.irqAddr
  cases hl : l.find? (irqCell s) with
  | none =>
    have hm := h.miss hl
    have hfind : (l ++ l').find? (irqCell s) = l'.find? (irqCell t) := by simp [hl, hc]
    refine ⟨h'.spucnt.trans h.spucnt, h'.irqAddr.trans h.irqAddr, fun a ha => ?_, fun hn => ?_⟩
    · simpa [Checked, hm.1, hm.2, h.spucnt] using h'.hit a (hfind ▸ ha)
    · have hu := h'.miss (hfind ▸ hn)
      exact ⟨hu.1.trans hm.1, hu.2.trans hm.2⟩
  | some b =>
    have hs := h.hit b hl
    have hfind : (l ++ l').find? (irqCell s) = some b := by simp [hl]
    refine ⟨h'.spucnt.trans h.spucnt, h'.irqAddr.trans h.irqAddr, fun a ha => ?_, fun hn => by simp [hfind] at hn⟩
    obtain rfl : b = a := by simpa [hfind] using ha
    refine ⟨fun hx => ?_, fun hx => ?_⟩
    · have ht := hs.1 hx
      have hu := h'.quiet (by simp [ht.1])
      exact ⟨hu.1.trans ht.1, hu.2.trans ht.2⟩
    · have ht := hs.2 hx
      have hu := h'.quiet (by rw [h.spucnt, ht.1]; exact fun hy => hx ⟨trivial, hy⟩)
      exact ⟨hu.1.trans ht.1, hu.2.trans ht.2⟩

/-- `CellIrqCheck` checks its cell (R438). -/
theorem cellIrqCheck_checks (a : RamAddr) (s : State) : CellChecks [a] s (cellIrqCheck a s) := by
  have hg := (cellIrqCheck_step a s).global
  refine ⟨by rw [hg], by rw [hg], fun b hb => ?_, fun hn => ?_⟩
  · obtain ⟨rfl, hm⟩ : a = b ∧ irqCell s a = true := by
      cases h : irqCell s a <;> simp_all
    rw [cellIrqCheck, if_pos ((irqCell_iff s a).1 hm)]
    refine ⟨fun hx => by rw [signalIrq_raises hx.2.1 hx.2.2]; exact ⟨rfl, rfl⟩, fun hx => ?_⟩
    rw [signalIrq_quiet (by cases h1 : irq9En s.g.spucnt <;> cases h2 : s.g.irqFlag <;> simp_all)]
    exact ⟨rfl, rfl⟩
  · have hm : ¬ (a = irqByte s ∨ a = irqByte s - 2) := fun h => by
      simp [(irqCell_iff s a).2 h] at hn
    rw [cellIrqCheck, if_neg hm]
    exact ⟨rfl, rfl⟩

/-- A reverb read checks its cell (R382). -/
theorem revRead_checks (off : Int) (s : State) : CellChecks [revAddr s off] s (revRead off s).2 :=
  cellIrqCheck_checks _ s

/-- A reverb write checks its cell exactly when it is performed (R383). -/
theorem revWrite_checks (off v : Int) (s : State) :
    CellChecks (if revWriteEn s.g.spucnt then [revAddr s off] else []) s (revWrite off v s) := by
  unfold revWrite
  split
  · exact (cellIrqCheck_checks _ s).append (.of_same rfl rfl rfl rfl)
  · exact .of_same rfl rfl rfl rfl

/-- A reverb write leaves every byte outside its cell alone (R383). -/
theorem revWrite_outside (off v : Int) {s : State} (hw : Memory.wf s.ram = true) {x : Nat} (hx : x < 0x80000)
    (h0 : x ≠ (revAddr s off).toNat) (h1 : x ≠ (revAddr s off).toNat + 1) :
    memRead1 (revWrite off v s) x = memRead1 s x := by
  unfold revWrite
  split
  · have hs := cellIrqCheck_step (revAddr s off) s
    have hr := revAddr_range s off
    rw [memRead1_memWrite2 (by rw [hs.ram]; exact hw)]
    have e1 : ¬ x % 0x80000 = ((revAddr s off).toNat + 1) % 0x80000 := by omega
    have e2 : ¬ x % 0x80000 = (revAddr s off).toNat % 0x80000 := by omega
    simp [e1, e2, memRead1_congr hs.ram]
  · rfl

/-! ### Ranges (R394) -/

theorem gain_range (a : Int) (v : Half) : -0x8000 ≤ gain a v ∧ gain a v ≤ 0x7FFF := sat16_range _

theorem revRead_range (off : Int) (s : State) : -0x8000 ≤ (revRead off s).1 ∧ (revRead off s).1 ≤ 0x7FFF := s16_range _

theorem channel_range (c : ChannelRegs) (input : Int) (s : State) :
    -0x8000 ≤ (channel c input s).1 ∧ (channel c input s).1 ≤ 0x7FFF := gain_range _ _

theorem reverb_range (inL inR : Int) (s : State) :
    (-0x8000 ≤ (reverb inL inR s).1.1 ∧ (reverb inL inR s).1.1 ≤ 0x7FFF) ∧
      (-0x8000 ≤ (reverb inL inR s).1.2 ∧ (reverb inL inR s).1.2 ≤ 0x7FFF) :=
  ⟨channel_range _ _ _, channel_range _ _ _⟩

/-- The product of two 16-bit values, shifted: it fits 17 signed bits. -/
theorem mulq15_range {a b : Int} (ha : -0x8000 ≤ a ∧ a ≤ 0x7FFF) (hb : -0x8000 ≤ b ∧ b ≤ 0x7FFF) :
    -0x8000 ≤ mulq15 a b ∧ mulq15 a b ≤ 0x8000 := by
  have h1 : a * b ≤ 0x40000000 := by nlinarith
  have h2 : -0x40000000 ≤ a * b := by nlinarith
  unfold mulq15 sar
  norm_num
  omega

end Sys2Proof.Machine
end

