-- ==== Sys2Proof/Laws/Mix.lean ====
section
/-! SUPPORT. What the parts of the mix step, the mix step and the tick can do (spec/43_mixer_tick.md R340 to R352): which part of
the state each may change, and that each keeps the invariants of Sys2Proof/Safety.lean. -/

namespace Sys2Proof.Machine

open Sys2Proof Sys2Proof.Safety

/-! ### Rules that run over the voices -/

/-- What the rules of the voices together may change. -/
structure VoicesChange (s t : State) : Prop where
  ram : t.ram = s.ram
  rv : t.rv = s.rv
  cdq : t.cdq = s.cdq
  out : t.out = s.out
  result : t.result = s.result
  pending : t.pending = s.pending
  global : t.g = { s.g with endx := t.g.endx, irqFlag := t.g.irqFlag }
  irq : IrqTrace s t

theorem VoicesChange.refl (s : State) : VoicesChange s s := ⟨rfl, rfl, rfl, rfl, rfl, rfl, rfl, .inl ⟨rfl, rfl⟩⟩

theorem VoicesChange.spucnt {s t : State} (h : VoicesChange s t) : t.g.spucnt = s.g.spucnt := by rw [h.global]

theorem VoicesChange.trans {s t u : State} (h : VoicesChange s t) (h' : VoicesChange t u) : VoicesChange s u where
  ram := h'.ram.trans h.ram
  rv := h'.rv.trans h.rv
  cdq := h'.cdq.trans h.cdq
  out := h'.out.trans h.out
  result := h'.result.trans h.result
  pending := h'.pending.trans h.pending
  global := by rw [h'.global, h.global]
  irq := IrqTrace.trans h.spucnt h.irq h'.irq

theorem VoiceChange.toVoices {n : VoiceId} {s t : State} (h : VoiceChange n s t) : VoicesChange s t :=
  ⟨h.ram, h.rv, h.cdq, h.out, h.result, h.pending, h.global, h.irq⟩

theorem VoiceChange.ok {n : VoiceId} {s t : State} (h : VoiceChange n s t) (hn : VoiceOk (t.voice n))
    (hs : ∀ m : VoiceId, VoiceOk (s.voice m)) (m : VoiceId) : VoiceOk (t.voice m) := by
  by_cases hm : m = n
  · subst hm; exact hn
  · rw [h.others m hm]; exact hs m

/-! ### The key latch (R342) -/

theorem latchOn_change (kon : Mask) (s : State) (n : VoiceId) : VoiceChange n s (latchOn kon s n) := by
  unfold latchOn; split
  · exact keyOn_change n s
  · exact VoiceChange.refl n s

theorem latchOff_change (koff : Mask) (s : State) (n : VoiceId) : VoiceChange n s (latchOff koff s n) := by
  unfold latchOff; split
  · exact keyOff_change n s
  · exact VoiceChange.refl n s

theorem latchOn_ok {kon : Mask} {s : State} {n : VoiceId} (h : ∀ m : VoiceId, VoiceOk (s.voice m)) (m : VoiceId) :
    VoiceOk ((latchOn kon s n).voice m) := by
  refine (latchOn_change kon s n).ok ?_ h m
  unfold latchOn; split
  · exact keyOn_ok n s
  · exact h n

theorem latchOff_ok {koff : Mask} {s : State} {n : VoiceId} (h : ∀ m : VoiceId, VoiceOk (s.voice m)) (m : VoiceId) :
    VoiceOk ((latchOff koff s n).voice m) := by
  refine (latchOff_change koff s n).ok ?_ h m
  unfold latchOff; split
  · exact keyOff_ok (h n)
  · exact h n

theorem foldl_voicesChange {f : State → VoiceId → State} (hf : ∀ s n, VoiceChange n s (f s n)) (l : List VoiceId) (s : State) :
    VoicesChange s (l.foldl f s) := by
  induction l generalizing s with
  | nil => exact VoicesChange.refl s
  | cons n rest ih => exact (hf s n).toVoices.trans (ih (f s n))

theorem foldl_keeps {P : State → Prop} {f : State → VoiceId → State} (hf : ∀ s n, P s → P (f s n)) (l : List VoiceId)
    {s : State} (h : P s) : P (l.foldl f s) := by
  induction l generalizing s with
  | nil => exact h
  | cons n rest ih => exact ih (hf s n h)

/-- A fold over voices that are not `m` leaves voice `m` and its ENDX bit. -/
theorem foldl_others {f : State → VoiceId → State} (hf : ∀ s n, VoiceChange n s (f s n)) (l : List VoiceId) {m : VoiceId}
    (hm : m ∉ l) (s : State) :
    (l.foldl f s).voice m = s.voice m ∧ maskBit (l.foldl f s).g.endx m = maskBit s.g.endx m := by
  induction l generalizing s with
  | nil => exact ⟨rfl, rfl⟩
  | cons n rest ih =>
    simp only [List.mem_cons, not_or] at hm
    have h := ih hm.2 (f s n)
    exact ⟨h.1.trans ((hf s n).others m hm.1), h.2.trans ((hf s n).endx m hm.1)⟩

/-- A fold over all voices does to voice `m` what its own turn does, from a state in which voice `m` is as at the start. -/
theorem foldl_at {f : State → VoiceId → State} (hf : ∀ s n, VoiceChange n s (f s n)) (s : State) (m : VoiceId) :
    ∃ t, VoicesChange s t ∧ t.voice m = s.voice m ∧ maskBit t.g.endx m = maskBit s.g.endx m ∧
      (allVoices.foldl f s).voice m = (f t m).voice m ∧
      maskBit (allVoices.foldl f s).g.endx m = maskBit (f t m).g.endx m := by
  have hmem : m ∈ allVoices := List.mem_finRange m
  obtain ⟨l1, l2, hl⟩ := List.append_of_mem hmem
  have hnd : (l1 ++ m :: l2).Nodup := hl ▸ List.nodup_finRange 24
  have h1 : m ∉ l1 := fun h => by
    have := List.disjoint_of_nodup_append hnd h
    simp at this
  have h2 : m ∉ l2 := by
    have := (List.nodup_append.1 hnd).2.1
    exact (List.nodup_cons.1 this).1
  refine ⟨l1.foldl f s, foldl_voicesChange hf l1 s, (foldl_others hf l1 h1 s).1, (foldl_others hf l1 h1 s).2, ?_⟩
  rw [hl, List.foldl_append, List.foldl_cons]
  exact ⟨(foldl_others hf l2 h2 _).1, (foldl_others hf l2 h2 _).2⟩

theorem keyLatch_change (s : State) :
    VoicesChange { s with g := { s.g with konPend := 0, koffPend := 0 } } (keyLatch s) :=
  (foldl_voicesChange (latchOn_change _) allVoices _).trans (foldl_voicesChange (latchOff_change _) allVoices _)

theorem keyLatch_fault (s : State) : (keyLatch s).fault = s.fault := by
  have hon : ∀ (kon : Mask) (l : List VoiceId) (s : State), (l.foldl (latchOn kon) s).fault = s.fault := by
    intro kon l; induction l with
    | nil => intro s; rfl
    | cons n rest ih =>
      intro s; rw [List.foldl_cons, ih]; unfold latchOn; split <;> rfl
  have hoff : ∀ (koff : Mask) (l : List VoiceId) (s : State), (l.foldl (latchOff koff) s).fault = s.fault := by
    intro koff l; induction l with
    | nil => intro s; rfl
    | cons n rest ih =>
      intro s; rw [List.foldl_cons, ih]; unfold latchOff; split
      · exact keyOff_fault n s
      · rfl
  unfold keyLatch
  simp only [hoff, hon]

theorem keyLatch_draws (s : State) : (keyLatch s).draws = s.draws := by
  have h1 : ∀ (kon : Mask) (s : State) (n : VoiceId), (latchOn kon s n).draws = s.draws := by
    intro kon s n; unfold latchOn; split <;> rfl
  have h2 : ∀ (koff : Mask) (s : State) (n : VoiceId), (latchOff koff s n).draws = s.draws := by
    intro koff s n; unfold latchOff keyOff; split
    · split <;> rfl
    · rfl
  unfold keyLatch
  have hk := foldl_keeps (P := fun t => t.draws = s.draws) (f := latchOn s.g.konPend)
    (fun t n h => (h1 _ t n).trans h) allVoices (s := { s with g := { s.g with konPend := 0, koffPend := 0 } }) rfl
  exact foldl_keeps (P := fun t => t.draws = s.draws) (fun t n h => (h2 _ t n).trans h) allVoices hk

theorem keyLatch_ok {s : State} (h : ∀ m : VoiceId, VoiceOk (s.voice m)) : ∀ m : VoiceId, VoiceOk ((keyLatch s).voice m) := by
  have h1 : ∀ m : VoiceId, VoiceOk (State.voice { s with g := { s.g with konPend := 0, koffPend := 0 } } m) := h
  have h2 := foldl_keeps (P := fun t => ∀ m : VoiceId, VoiceOk (t.voice m)) (f := latchOn s.g.konPend)
    (fun _ _ ht => latchOn_ok ht) allVoices h1
  exact foldl_keeps (P := fun t => ∀ m : VoiceId, VoiceOk (t.voice m)) (f := latchOff s.g.koffPend)
    (fun _ _ ht => latchOff_ok ht) allVoices h2

/-! ### The voice sum (R343) -/

theorem sumVoices_change (p : Params) (l : List VoiceId) (acc : Sums) (s : State) :
    VoicesChange s (sumVoices p l acc s).2 := by
  induction l generalizing acc s with
  | nil => exact VoicesChange.refl s
  | cons n rest ih =>
    unfold sumVoices
    simp only
    split
    · exact (voiceStep_change p n s).toVoices
    · exact (voiceStep_change p n s).toVoices.trans (ih _ _)

theorem sumVoices_ok {p : Params} (l : List VoiceId) (acc : Sums) {s : State} (h : ∀ m : VoiceId, VoiceOk (s.voice m))
    (m : VoiceId) : VoiceOk ((sumVoices p l acc s).2.voice m) := by
  induction l generalizing acc s with
  | nil => exact h m
  | cons n rest ih =>
    have hk := (voiceStep_change p n s).ok (voiceStep_ok (h n)) h
    unfold sumVoices
    simp only
    split
    · exact hk m
    · exact ih _ hk

/-- The sum runs to its end exactly when every voice of the list that has to decode finds an accepted header. -/
theorem sumVoices_noError_iff (p : Params) (l : List VoiceId) (hnd : l.Nodup) (acc : Sums) {s : State} (h : NoError s) :
    NoError (sumVoices p l acc s).2 ↔
      ∀ n ∈ l, NeedsDecode (s.voice n) → LegalHeader (memRead1 s (s.voice n).cur.toNat) := by
  induction l generalizing acc s with
  | nil => simpa [sumVoices] using h
  | cons n rest ih =>
    have hc := voiceStep_change p n s
    have hiff := voiceStep_noError_iff p n h
    have hnd' := List.nodup_cons.1 hnd
    unfold sumVoices
    simp only [List.mem_cons, forall_eq_or_imp]
    by_cases hf : faulted (voiceStep p n s).2 = true
    · have hne : ¬ NoError (voiceStep p n s).2 := fun hn => by simp [faulted_of_noError hn] at hf
      simp only [hf, if_true]
      exact ⟨fun hn => absurd hn hne, fun hn => absurd (hiff.2 hn.1) hne⟩
    · have hf' : faulted (voiceStep p n s).2 = false := by simpa using hf
      have hn := noError_of_not_faulted hf'
      simp only [hf', Bool.false_eq_true, if_false]
      rw [ih hnd'.2 _ hn]
      have hrest : ∀ m ∈ rest, (voiceStep p n s).2.voice m = s.voice m := fun m hm =>
        hc.others m fun e => hnd'.1 (e ▸ hm)
      constructor
      · intro hall
        refine ⟨hiff.1 hn, fun m hm => ?_⟩
        have := hall m hm
        rwa [hrest m hm, memRead1_congr hc.ram] at this
      · intro hall m hm
        rw [hrest m hm, memRead1_congr hc.ram]
        exact hall.2 m hm

/-! ### Capture, output (R346, R351, R352) -/

theorem captureWrite_wf {cl cr : Half} {s : State} (hw : Memory.wf s.ram = true) :
    Memory.wf (captureWrite cl cr s).ram = true :=
  memWrite2_wf (memWrite2_wf (memWrite2_wf (memWrite2_wf hw _ _) _ _) _ _) _ _

/-- A capture write changes Sound RAM and the capture offset alone. -/
theorem captureWrite_eq (cl cr : Half) (s : State) :
    captureWrite cl cr s =
      { s with ram := (captureWrite cl cr s).ram, g := { s.g with capOffset := s.g.capOffset + 2 } } := rfl

theorem outputAppend_eq (l r : Half) (s : State) :
    outputAppend l r s = { s with out := (outputAppend l r s).out, trace := (outputAppend l r s).trace } := by
  unfold outputAppend; simp only; split <;> rfl

theorem outputAppend_ok {l r : Half} {s : State} (h : OutOk s.out) : OutOk (outputAppend l r s).out := by
  have h1 := h.whole
  have h2 := h.short
  unfold outputAppend
  simp only
  split
  · exact ⟨rfl, (by decide : (0 : Nat) < 2048)⟩
  · rename_i hne
    simp only [List.length_append, stereoBytes, List.length_cons, List.length_nil] at hne
    exact ⟨by simp only [List.length_append, stereoBytes, List.length_cons, List.length_nil]; omega,
      by simp only [List.length_append, stereoBytes, List.length_cons, List.length_nil]; omega⟩

/-! ### The trace and the pending flag of longer runs -/

theorem irqCount_append (a b : List Event) : irqCount (a ++ b) = irqCount a + irqCount b := by
  induction a with
  | nil => simp [irqCount]
  | cons e rest ih => cases e <;> simp [irqCount, ih]; omega

/-- The trace only grows, and the flag and the number of interrupts move together: nothing, or one interrupt (R436). -/
structure TraceGrows (s t : State) : Prop where
  grows : s.trace <+: t.trace
  irq : (irqCount t.trace = irqCount s.trace ∧ t.g.irqFlag = s.g.irqFlag) ∨
    (irq9En s.g.spucnt = true ∧ s.g.irqFlag = false ∧ t.g.irqFlag = true ∧ irqCount t.trace = irqCount s.trace + 1)

theorem TraceGrows.refl (s : State) : TraceGrows s s := ⟨List.prefix_refl _, .inl ⟨rfl, rfl⟩⟩

theorem TraceGrows.trans {s t u : State} (hs : t.g.spucnt = s.g.spucnt) (h : TraceGrows s t) (h' : TraceGrows t u) :
    TraceGrows s u := by
  refine ⟨h.grows.trans h'.grows, ?_⟩
  rcases h.irq with ⟨h1, h2⟩ | ⟨h1, h2, h3, h4⟩
  · rcases h'.irq with ⟨h5, h6⟩ | ⟨h5, h6, h7, h8⟩
    · exact .inl ⟨h5.trans h1, h6.trans h2⟩
    · exact .inr ⟨hs ▸ h5, h2 ▸ h6, h7, by rw [h8, h1]⟩
  · rcases h'.irq with ⟨h5, h6⟩ | ⟨_, h6, _⟩
    · exact .inr ⟨h1, h2, h6.trans h3, by rw [h5, h4]⟩
    · rw [h3] at h6; cases h6

theorem IrqTrace.grows {s t : State} (h : IrqTrace s t) : TraceGrows s t := by
  rcases h with ⟨h1, h2⟩ | ⟨h1, h2, h3, src, h4⟩
  · exact ⟨h1 ▸ List.prefix_refl _, .inl ⟨by rw [h1], h2⟩⟩
  · exact ⟨h4 ▸ List.prefix_append _ _, .inr ⟨h1, h2, h3, by rw [h4, irqCount_append]; rfl⟩⟩

theorem outputAppend_grows (l r : Half) (s : State) : TraceGrows s (outputAppend l r s) := by
  unfold outputAppend
  simp only
  split
  · exact ⟨List.prefix_append _ _, .inl ⟨by simp [emit, irqCount_append, irqCount], rfl⟩⟩
  · exact ⟨List.prefix_refl _, .inl ⟨rfl, rfl⟩⟩

/-! ### The mix step -/

/-- What a mix step may change: the voices, Sound RAM, the queue, the output, the trace, `FAULT`, the draws, and of the global
record the flags, the pending masks, the reverb cursor and phase and the capture offset. -/
structure MixChange (s t : State) : Prop where
  rv : t.rv = s.rv
  result : t.result = s.result
  pending : t.pending = s.pending
  global : t.g =
    { s.g with
      endx := t.g.endx
      konPend := t.g.konPend
      koffPend := t.g.koffPend
      irqFlag := t.g.irqFlag
      revCur := t.g.revCur
      revPhase := t.g.revPhase
      capOffset := t.g.capOffset }
  trace : TraceGrows s t

theorem MixChange.spucnt {s t : State} (h : MixChange s t) : t.g.spucnt = s.g.spucnt := by rw [h.global]

theorem MixChange.refl (s : State) : MixChange s s := ⟨rfl, rfl, rfl, rfl, TraceGrows.refl s⟩

theorem MixChange.trans {s t u : State} (h : MixChange s t) (h' : MixChange t u) : MixChange s u where
  rv := h'.rv.trans h.rv
  result := h'.result.trans h.result
  pending := h'.pending.trans h.pending
  global := by rw [h'.global, h.global]
  trace := TraceGrows.trans h.spucnt h.trace h'.trace

theorem VoicesChange.toMix {s t : State} (h : VoicesChange s t) : MixChange s t where
  rv := h.rv
  result := h.result
  pending := h.pending
  global := by rw [h.global]
  trace := h.irq.grows

theorem ReverbChange.toMix {s t : State} (h : ReverbChange s t) : MixChange s t where
  rv := h.rv
  result := h.result
  pending := h.pending
  global := by rw [h.global]
  trace := h.irq.grows

theorem keyLatch_mix (s : State) : MixChange s (keyLatch s) :=
  (show MixChange s { s with g := { s.g with konPend := 0, koffPend := 0 } } from
    ⟨rfl, rfl, rfl, rfl, ⟨List.prefix_refl _, .inl ⟨rfl, rfl⟩⟩⟩).trans (keyLatch_change s).toMix

theorem cdDequeue_eq (s : State) : (cdDequeue s).2 = { s with cdq := s.cdq.tail } := by
  obtain ⟨ram, voices, g, rv, cdq, out, fault, trace, result, pending, draws⟩ := s
  cases cdq <;> rfl

theorem captureWrite_mix (cl cr : Half) (s : State) : MixChange s (captureWrite cl cr s) :=
  ⟨rfl, rfl, rfl, rfl, ⟨List.prefix_refl _, .inl ⟨rfl, rfl⟩⟩⟩

theorem reverbPart_mix (acc : Sums) (s : State) : MixChange s (reverbPart acc s).2 := by
  unfold reverbPart
  simp only
  split
  · exact ⟨rfl, rfl, rfl, rfl, ⟨List.prefix_refl _, .inl ⟨rfl, rfl⟩⟩⟩
  · exact (reverb_change _ _ s).toMix.trans ⟨rfl, rfl, rfl, rfl, ⟨List.prefix_refl _, .inl ⟨rfl, rfl⟩⟩⟩

theorem outputAppend_mix (l r : Half) (s : State) : MixChange s (outputAppend l r s) := by
  refine ⟨?_, ?_, ?_, ?_, outputAppend_grows l r s⟩ <;> rw [outputAppend_eq]

theorem mixOutput_mix (acc : Sums) (s : State) : MixChange s (mixOutput acc s) := by
  unfold mixOutput
  simp only
  refine MixChange.trans (t := (cdDequeue s).2) ?_ ?_
  · rw [cdDequeue_eq]; exact ⟨rfl, rfl, rfl, rfl, ⟨List.prefix_refl _, .inl ⟨rfl, rfl⟩⟩⟩
  · exact ((captureWrite_mix _ _ _).trans (reverbPart_mix _ _)).trans (outputAppend_mix _ _ _)

/-- Everything a mix step can change (R341). -/
theorem mixStep_mix (p : Params) (s : State) : MixChange s (mixStep p s) := by
  have h := (keyLatch_mix s).trans (sumVoices_change p allVoices Sums.zero (keyLatch s)).toMix
  unfold mixStep voiceSum
  simp only
  split
  · exact h
  · exact h.trans (mixOutput_mix _ _)

theorem mixOutput_fault (acc : Sums) (s : State) : (mixOutput acc s).fault = s.fault := by
  unfold mixOutput
  simp only
  rw [outputAppend_eq]
  unfold reverbPart
  simp only
  split
  · show ((cdDequeue s).2).fault = _
    rw [cdDequeue_eq]
  · simp only
    rw [(reverb_change _ _ _).fault]
    show ((cdDequeue s).2).fault = _
    rw [cdDequeue_eq]

/-- A mix step runs to its end exactly when every block it has to decode has an accepted header (R279, R341). -/
theorem mixStep_noError_iff (p : Params) {s : State} (h : NoError s) : NoError (mixStep p s) ↔ HeadersReady s := by
  have hk : NoError (keyLatch s) := (keyLatch_fault s).trans h
  have hsum := sumVoices_noError_iff p allVoices (List.nodup_finRange 24) Sums.zero hk
  have hmem : ∀ n : VoiceId, n ∈ allVoices := fun n => List.mem_finRange n
  have hready : NoError (voiceSum p (keyLatch s)).2 ↔ HeadersReady s := by
    unfold voiceSum
    rw [hsum]
    unfold HeadersReady
    have hram : (keyLatch s).ram = s.ram := (keyLatch_change s).ram
    constructor
    · intro hall n hn
      rw [← memRead1_congr hram]; exact hall n (hmem n) hn
    · intro hall n _ hn
      rw [memRead1_congr hram]; exact hall n hn
  rw [← hready]
  unfold mixStep
  simp only
  split
  · exact Iff.rfl
  · unfold NoError; rw [mixOutput_fault]

/-! ### The invariants -/

theorem GlobalOk.of_voices {s t : State} (h : VoicesChange s t) (hs : GlobalOk s.g) : GlobalOk t.g := by
  have hi := hs.irq
  rw [h.global]
  refine ⟨hs.xferEven, hs.revEven, hs.capEven, hs.revLow, hs.revHigh, fun hf => ?_⟩
  rcases h.irq with ⟨_, h2⟩ | ⟨h1, _⟩
  · exact hi (h2 ▸ hf)
  · exact h1

theorem reverb_globalOk (inL inR : Int) {s : State} (hs : GlobalOk s.g) : GlobalOk (reverb inL inR s).2.g := by
  have h := reverb_change inL inR s
  have hc := reverb_cursor inL inR s
  have hb : byteAddr s.g.mBASE % 8 = 0 := by unfold byteAddr; omega
  have hhi : byteAddr s.g.mBASE ≤ 0x7FFF8 := by have := s.g.mBASE.isLt; unfold byteAddr; omega
  have hn : (reverb inL inR s).2.g.revCur.toNat =
      if 0x7FFFF < s.g.revCur.toNat + 2 then byteAddr s.g.mBASE else s.g.revCur.toNat + 2 := by
    rw [hc]
    split
    · rw [cursorOf_toNat]; rfl
    · rw [BitVec.toNat_ofNat]; omega
  obtain ⟨h1, h2, h3⟩ := advance_range hb hhi hs.revLow hs.revHigh hs.revEven _ hn
  rw [h.global]
  refine ⟨hs.xferEven, h3, hs.capEven, h1, h2, fun hf => ?_⟩
  rcases h.irq with ⟨_, h2⟩ | ⟨h1, _⟩
  · exact hs.irq (h2 ▸ hf)
  · exact h1

theorem captureWrite_globalOk (cl cr : Half) {s : State} (hs : GlobalOk s.g) : GlobalOk (captureWrite cl cr s).g := by
  refine ⟨hs.xferEven, hs.revEven, ?_, hs.revLow, hs.revHigh, hs.irq⟩
  have h := hs.capEven
  show (s.g.capOffset + 2).toNat % 2 = 0
  have h2 : (2 : BitVec 10).toNat = 2 := rfl
  rw [BitVec.toNat_add, h2]; omega

theorem keyLatch_inv {s : State} (h : Inv s) : Inv (keyLatch s) where
  voices := keyLatch_ok h.voices
  globals := GlobalOk.of_voices (keyLatch_change s)
    ⟨h.globals.xferEven, h.globals.revEven, h.globals.capEven, h.globals.revLow, h.globals.revHigh, h.globals.irq⟩
  output := by rw [(keyLatch_change s).out]; exact h.output
  memory := by rw [(keyLatch_change s).ram]; exact h.memory

theorem voices_of_reverb {s t : State} (h : ReverbChange s t) (n : VoiceId) : t.voice n = s.voice n :=
  voice_of_voices h.voices n

theorem reverb_inv (inL inR : Int) {s : State} (h : Inv s) : Inv (reverb inL inR s).2 where
  voices n := by rw [voices_of_reverb (reverb_change inL inR s)]; exact h.voices n
  globals := reverb_globalOk inL inR h.globals
  output := by rw [(reverb_change inL inR s).out]; exact h.output
  memory := (reverb_change inL inR s).wf h.memory

theorem captureWrite_inv (cl cr : Half) {s : State} (h : Inv s) : Inv (captureWrite cl cr s) where
  voices := h.voices
  globals := captureWrite_globalOk cl cr h.globals
  output := h.output
  memory := captureWrite_wf h.memory

theorem outputAppend_inv (l r : Half) {s : State} (h : Inv s) : Inv (outputAppend l r s) where
  voices n := by rw [outputAppend_eq]; exact h.voices n
  globals := by rw [outputAppend_eq]; exact h.globals
  output := outputAppend_ok h.output
  memory := by rw [outputAppend_eq]; exact h.memory

theorem reverbPart_inv (acc : Sums) {s : State} (h : Inv s) : Inv (reverbPart acc s).2 := by
  unfold reverbPart
  simp only
  split
  · exact ⟨h.voices, ⟨h.globals.xferEven, h.globals.revEven, h.globals.capEven, h.globals.revLow, h.globals.revHigh,
      h.globals.irq⟩, h.output, h.memory⟩
  · have hr := reverb_inv (sat16 acc.revL) (sat16 acc.revR) h
    exact ⟨hr.voices, ⟨hr.globals.xferEven, hr.globals.revEven, hr.globals.capEven, hr.globals.revLow, hr.globals.revHigh,
      hr.globals.irq⟩, hr.output, hr.memory⟩

theorem mixOutput_inv (acc : Sums) {s : State} (h : Inv s) : Inv (mixOutput acc s) := by
  have hd : Inv (cdDequeue s).2 := by
    rw [cdDequeue_eq]; exact ⟨h.voices, h.globals, h.output, h.memory⟩
  unfold mixOutput
  exact outputAppend_inv _ _ (reverbPart_inv _ (captureWrite_inv _ _ hd))

theorem mixStep_inv (p : Params) {s : State} (h : Inv s) : Inv (mixStep p s) := by
  have hk := keyLatch_inv h
  have hc := sumVoices_change p allVoices Sums.zero (keyLatch s)
  have hv : Inv (voiceSum p (keyLatch s)).2 :=
    { voices := sumVoices_ok allVoices Sums.zero hk.voices
      globals := GlobalOk.of_voices hc hk.globals
      output := by unfold voiceSum; rw [hc.out]; exact hk.output
      memory := by unfold voiceSum; rw [hc.ram]; exact hk.memory }
  unfold mixStep
  simp only
  split
  · exact hv
  · exact mixOutput_inv _ hv

/-! ### The tick (R340) -/

/-- What a `TICK` may change: what a mix step may, and the cycle counter. -/
structure TickChange (s t : State) : Prop where
  rv : t.rv = s.rv
  result : t.result = s.result
  pending : t.pending = s.pending
  global : t.g =
    { s.g with
      endx := t.g.endx
      konPend := t.g.konPend
      koffPend := t.g.koffPend
      irqFlag := t.g.irqFlag
      revCur := t.g.revCur
      revPhase := t.g.revPhase
      capOffset := t.g.capOffset
      cycleCount := t.g.cycleCount }
  trace : TraceGrows s t

theorem TickChange.spucnt {s t : State} (h : TickChange s t) : t.g.spucnt = s.g.spucnt := by rw [h.global]

theorem TickChange.refl (s : State) : TickChange s s := ⟨rfl, rfl, rfl, rfl, TraceGrows.refl s⟩

theorem TickChange.count (s : State) (k : Nat) : TickChange s { s with g := { s.g with cycleCount := k } } :=
  ⟨rfl, rfl, rfl, rfl, ⟨List.prefix_refl _, .inl ⟨rfl, rfl⟩⟩⟩

theorem TickChange.trans {s t u : State} (h : TickChange s t) (h' : TickChange t u) : TickChange s u where
  rv := h'.rv.trans h.rv
  result := h'.result.trans h.result
  pending := h'.pending.trans h.pending
  global := by rw [h'.global, h.global]
  trace := TraceGrows.trans h.spucnt h.trace h'.trace

theorem MixChange.toTick {s t : State} (h : MixChange s t) : TickChange s t where
  rv := h.rv
  result := h.result
  pending := h.pending
  global := by rw [h.global]
  trace := h.trace

theorem crossing_tick (p : Params) (s : State) : TickChange s (crossing p s) := by
  unfold crossing
  simp only
  split
  · exact (TickChange.count s _).trans (mixStep_mix p _).toTick
  · exact TickChange.count s _

theorem crossings_tick (p : Params) (fuel : Nat) (s : State) : TickChange s (crossings p fuel s) := by
  induction fuel generalizing s with
  | zero => exact TickChange.refl s
  | succ k ih =>
    unfold crossings
    split
    · exact TickChange.refl s
    · simp only
      split
      · exact crossing_tick p s
      · exact (crossing_tick p s).trans (ih _)

/-- Everything a `TICK` can change. -/
theorem runTick_tick (p : Params) (cycles : Nat) (s : State) : TickChange s (runTick p cycles s) :=
  (TickChange.count s _).trans (crossings_tick p _ _)

/-- The invariants do not speak of the cycle counter. -/
theorem inv_withCount {s : State} (h : Inv s) (k : Nat) : Inv { s with g := { s.g with cycleCount := k } } :=
  ⟨h.voices, ⟨h.globals.xferEven, h.globals.revEven, h.globals.capEven, h.globals.revLow, h.globals.revHigh,
    h.globals.irq⟩, h.output, h.memory⟩

theorem crossing_inv (p : Params) {s : State} (h : Inv s) : Inv (crossing p s) := by
  have hc := inv_withCount h (s.g.cycleCount - 0x300)
  unfold crossing
  simp only
  split
  · exact mixStep_inv p hc
  · exact hc

theorem crossings_inv (p : Params) (fuel : Nat) {s : State} (h : Inv s) : Inv (crossings p fuel s) := by
  induction fuel generalizing s with
  | zero => exact h
  | succ k ih =>
    unfold crossings
    split
    · exact h
    · simp only
      split
      · exact crossing_inv p h
      · exact ih (crossing_inv p h)

theorem runTick_inv (p : Params) (cycles : Nat) {s : State} (h : Inv s) : Inv (runTick p cycles s) := by
  unfold runTick
  exact crossings_inv p _ (inv_withCount h _)

theorem crossing_count (p : Params) (s : State) : (crossing p s).g.cycleCount = s.g.cycleCount - 0x300 := by
  unfold crossing
  simp only
  split
  · rw [(mixStep_mix p _).global]
  · rfl

/-- With enough crossings the counter of an unfaulted block ends below one interval, at the remainder. -/
theorem crossings_count (p : Params) (fuel : Nat) (s : State) (hfuel : s.g.cycleCount / 0x300 ≤ fuel)
    (h : NoError (crossings p fuel s)) : (crossings p fuel s).g.cycleCount = s.g.cycleCount % 0x300 := by
  induction fuel generalizing s with
  | zero => unfold crossings; omega
  | succ k ih =>
    revert h
    unfold crossings
    split
    · intro _; omega
    · simp only
      split
      · rename_i hf
        intro h; simp [faulted_of_noError h] at hf
      · intro h
        have hc := crossing_count p s
        rw [ih _ (by omega) h, hc]; omega

end Sys2Proof.Machine
end

