-- ==== Sys2Proof/Laws/PerInstr.lean ====
section
/-! SUPPORT. One lemma per constructor of `Instr`: the selector of its encoding lies in a row of spec/opcode_table.json with its
mnemonic (R110 to R115, R126). The masks and matches are the table's own. -/

namespace Sys2Proof.Laws.SelectorRow

open Sys2Proof

/-- The masks and matches of the rows with the instruction's mnemonic (spec/opcode_table.json). -/
def rows : Instr → List (Nat × Nat)
  | .rd16VolL _ => [(0xFF0F, 0x0C00), (0xFF8F, 0x0D00)]
  | .rd16VolR _ => [(0xFF0F, 0x0C02), (0xFF8F, 0x0D02)]
  | .rd16Pitch _ => [(0xFF0F, 0x0C04), (0xFF8F, 0x0D04)]
  | .rd16Start _ => [(0xFF0F, 0x0C06), (0xFF8F, 0x0D06)]
  | .rd16AdsrLo _ => [(0xFF0F, 0x0C08), (0xFF8F, 0x0D08)]
  | .rd16AdsrHi _ => [(0xFF0F, 0x0C0A), (0xFF8F, 0x0D0A)]
  | .rd16Env _ => [(0xFF0F, 0x0C0C), (0xFF8F, 0x0D0C)]
  | .rd16Repeat _ => [(0xFF0F, 0x0C0E), (0xFF8F, 0x0D0E)]
  | .wr16VolL _ _ => [(0xFF0F, 0x1C00), (0xFF8F, 0x1D00)]
  | .wr16VolR _ _ => [(0xFF0F, 0x1C02), (0xFF8F, 0x1D02)]
  | .wr16Pitch _ _ => [(0xFF0F, 0x1C04), (0xFF8F, 0x1D04)]
  | .wr16Start _ _ => [(0xFF0F, 0x1C06), (0xFF8F, 0x1D06)]
  | .wr16AdsrLo _ _ => [(0xFF0F, 0x1C08), (0xFF8F, 0x1D08)]
  | .wr16AdsrHi _ _ => [(0xFF0F, 0x1C0A), (0xFF8F, 0x1D0A)]
  | .wr16Env _ _ => [(0xFF0F, 0x1C0C), (0xFF8F, 0x1D0C)]
  | .wr16Repeat _ _ => [(0xFF0F, 0x1C0E), (0xFF8F, 0x1D0E)]
  | .rd16MvolL => [(0xFFFF, 0x0D80)]
  | .wr16MvolL _ => [(0xFFFF, 0x1D80)]
  | .rd16MvolR => [(0xFFFF, 0x0D82)]
  | .wr16MvolR _ => [(0xFFFF, 0x1D82)]
  | .rd16VLOUT => [(0xFFFF, 0x0D84)]
  | .wr16VLOUT _ => [(0xFFFF, 0x1D84)]
  | .rd16VROUT => [(0xFFFF, 0x0D86)]
  | .wr16VROUT _ => [(0xFFFF, 0x1D86)]
  | .rd16KonLo => [(0xFFFF, 0x0D88)]
  | .wr16KonLo _ => [(0xFFFF, 0x1D88)]
  | .rd16KonHi => [(0xFFFF, 0x0D8A)]
  | .wr16KonHi _ => [(0xFFFF, 0x1D8A)]
  | .rd16KoffLo => [(0xFFFF, 0x0D8C)]
  | .wr16KoffLo _ => [(0xFFFF, 0x1D8C)]
  | .rd16KoffHi => [(0xFFFF, 0x0D8E)]
  | .wr16KoffHi _ => [(0xFFFF, 0x1D8E)]
  | .rd16PmonLo => [(0xFFFF, 0x0D90)]
  | .wr16PmonLo _ => [(0xFFFF, 0x1D90)]
  | .rd16PmonHi => [(0xFFFF, 0x0D92)]
  | .wr16PmonHi _ => [(0xFFFF, 0x1D92)]
  | .rd16NonLo => [(0xFFFF, 0x0D94)]
  | .wr16NonLo _ => [(0xFFFF, 0x1D94)]
  | .rd16NonHi => [(0xFFFF, 0x0D96)]
  | .wr16NonHi _ => [(0xFFFF, 0x1D96)]
  | .rd16EonLo => [(0xFFFF, 0x0D98)]
  | .wr16EonLo _ => [(0xFFFF, 0x1D98)]
  | .rd16EonHi => [(0xFFFF, 0x0D9A)]
  | .wr16EonHi _ => [(0xFFFF, 0x1D9A)]
  | .rd16EndxLo => [(0xFFFF, 0x0D9C)]
  | .wr16EndxLo _ => [(0xFFFF, 0x1D9C)]
  | .rd16EndxHi => [(0xFFFF, 0x0D9E)]
  | .wr16EndxHi _ => [(0xFFFF, 0x1D9E)]
  | .rd16Mbase => [(0xFFFF, 0x0DA2)]
  | .wr16Mbase _ => [(0xFFFF, 0x1DA2)]
  | .rd16IrqAddr => [(0xFFFF, 0x0DA4)]
  | .wr16IrqAddr _ => [(0xFFFF, 0x1DA4)]
  | .rd16XferAddr => [(0xFFFF, 0x0DA6)]
  | .wr16XferAddr _ => [(0xFFFF, 0x1DA6)]
  | .rd16XferPort => [(0xFFFF, 0x0DA8)]
  | .wr16XferPort _ => [(0xFFFF, 0x1DA8)]
  | .rd16Spucnt => [(0xFFFF, 0x0DAA)]
  | .wr16Spucnt _ => [(0xFFFF, 0x1DAA)]
  | .rd16Spustat => [(0xFFFF, 0x0DAE)]
  | .wr16Spustat _ => [(0xFFFF, 0x1DAE)]
  | .rd16CdvolL => [(0xFFFF, 0x0DB0)]
  | .wr16CdvolL _ => [(0xFFFF, 0x1DB0)]
  | .rd16CdvolR => [(0xFFFF, 0x0DB2)]
  | .wr16CdvolR _ => [(0xFFFF, 0x1DB2)]
  | .rd16ExtvolL => [(0xFFFF, 0x0DB4)]
  | .wr16ExtvolL _ => [(0xFFFF, 0x1DB4)]
  | .rd16ExtvolR => [(0xFFFF, 0x0DB6)]
  | .wr16ExtvolR _ => [(0xFFFF, 0x1DB6)]
  | .rd16DAPF1 => [(0xFFFF, 0x0DC0)]
  | .wr16DAPF1 _ => [(0xFFFF, 0x1DC0)]
  | .rd16DAPF2 => [(0xFFFF, 0x0DC2)]
  | .wr16DAPF2 _ => [(0xFFFF, 0x1DC2)]
  | .rd16VIIR => [(0xFFFF, 0x0DC4)]
  | .wr16VIIR _ => [(0xFFFF, 0x1DC4)]
  | .rd16VCOMB1 => [(0xFFFF, 0x0DC6)]
  | .wr16VCOMB1 _ => [(0xFFFF, 0x1DC6)]
  | .rd16VCOMB2 => [(0xFFFF, 0x0DC8)]
  | .wr16VCOMB2 _ => [(0xFFFF, 0x1DC8)]
  | .rd16VCOMB3 => [(0xFFFF, 0x0DCA)]
  | .wr16VCOMB3 _ => [(0xFFFF, 0x1DCA)]
  | .rd16VCOMB4 => [(0xFFFF, 0x0DCC)]
  | .wr16VCOMB4 _ => [(0xFFFF, 0x1DCC)]
  | .rd16VWALL => [(0xFFFF, 0x0DCE)]
  | .wr16VWALL _ => [(0xFFFF, 0x1DCE)]
  | .rd16VAPF1 => [(0xFFFF, 0x0DD0)]
  | .wr16VAPF1 _ => [(0xFFFF, 0x1DD0)]
  | .rd16VAPF2 => [(0xFFFF, 0x0DD2)]
  | .wr16VAPF2 _ => [(0xFFFF, 0x1DD2)]
  | .rd16MLSAME => [(0xFFFF, 0x0DD4)]
  | .wr16MLSAME _ => [(0xFFFF, 0x1DD4)]
  | .rd16MRSAME => [(0xFFFF, 0x0DD6)]
  | .wr16MRSAME _ => [(0xFFFF, 0x1DD6)]
  | .rd16MLCOMB1 => [(0xFFFF, 0x0DD8)]
  | .wr16MLCOMB1 _ => [(0xFFFF, 0x1DD8)]
  | .rd16MRCOMB1 => [(0xFFFF, 0x0DDA)]
  | .wr16MRCOMB1 _ => [(0xFFFF, 0x1DDA)]
  | .rd16MLCOMB2 => [(0xFFFF, 0x0DDC)]
  | .wr16MLCOMB2 _ => [(0xFFFF, 0x1DDC)]
  | .rd16MRCOMB2 => [(0xFFFF, 0x0DDE)]
  | .wr16MRCOMB2 _ => [(0xFFFF, 0x1DDE)]
  | .rd16DLSAME => [(0xFFFF, 0x0DE0)]
  | .wr16DLSAME _ => [(0xFFFF, 0x1DE0)]
  | .rd16DRSAME => [(0xFFFF, 0x0DE2)]
  | .wr16DRSAME _ => [(0xFFFF, 0x1DE2)]
  | .rd16MLDIFF => [(0xFFFF, 0x0DE4)]
  | .wr16MLDIFF _ => [(0xFFFF, 0x1DE4)]
  | .rd16MRDIFF => [(0xFFFF, 0x0DE6)]
  | .wr16MRDIFF _ => [(0xFFFF, 0x1DE6)]
  | .rd16MLCOMB3 => [(0xFFFF, 0x0DE8)]
  | .wr16MLCOMB3 _ => [(0xFFFF, 0x1DE8)]
  | .rd16MRCOMB3 => [(0xFFFF, 0x0DEA)]
  | .wr16MRCOMB3 _ => [(0xFFFF, 0x1DEA)]
  | .rd16MLCOMB4 => [(0xFFFF, 0x0DEC)]
  | .wr16MLCOMB4 _ => [(0xFFFF, 0x1DEC)]
  | .rd16MRCOMB4 => [(0xFFFF, 0x0DEE)]
  | .wr16MRCOMB4 _ => [(0xFFFF, 0x1DEE)]
  | .rd16DLDIFF => [(0xFFFF, 0x0DF0)]
  | .wr16DLDIFF _ => [(0xFFFF, 0x1DF0)]
  | .rd16DRDIFF => [(0xFFFF, 0x0DF2)]
  | .wr16DRDIFF _ => [(0xFFFF, 0x1DF2)]
  | .rd16MLAPF1 => [(0xFFFF, 0x0DF4)]
  | .wr16MLAPF1 _ => [(0xFFFF, 0x1DF4)]
  | .rd16MRAPF1 => [(0xFFFF, 0x0DF6)]
  | .wr16MRAPF1 _ => [(0xFFFF, 0x1DF6)]
  | .rd16MLAPF2 => [(0xFFFF, 0x0DF8)]
  | .wr16MLAPF2 _ => [(0xFFFF, 0x1DF8)]
  | .rd16MRAPF2 => [(0xFFFF, 0x0DFA)]
  | .wr16MRAPF2 _ => [(0xFFFF, 0x1DFA)]
  | .rd16VLIN => [(0xFFFF, 0x0DFC)]
  | .wr16VLIN _ => [(0xFFFF, 0x1DFC)]
  | .rd16VRIN => [(0xFFFF, 0x0DFE)]
  | .wr16VRIN _ => [(0xFFFF, 0x1DFE)]
  | .rd16UnrecDA0 => [(0xFFFF, 0x0DA0)]
  | .rd16UnrecDAC => [(0xFFFF, 0x0DAC)]
  | .rd16UnrecDB8 => [(0xFFFF, 0x0DB8)]
  | .rd16UnrecDBA => [(0xFFFF, 0x0DBA)]
  | .rd16UnrecDBC => [(0xFFFF, 0x0DBC)]
  | .rd16UnrecDBE => [(0xFFFF, 0x0DBE)]
  | .rd16UnrecE00 _ => [(0xFF81, 0x0E00)]
  | .rd16Misaligned _ => [(0xF001, 0x0001)]
  | .wr16UnrecDA0 _ => [(0xFFFF, 0x1DA0)]
  | .wr16UnrecDAC _ => [(0xFFFF, 0x1DAC)]
  | .wr16UnrecDB8 _ => [(0xFFFF, 0x1DB8)]
  | .wr16UnrecDBA _ => [(0xFFFF, 0x1DBA)]
  | .wr16UnrecDBC _ => [(0xFFFF, 0x1DBC)]
  | .wr16UnrecDBE _ => [(0xFFFF, 0x1DBE)]
  | .wr16UnrecE00 _ _ => [(0xFF81, 0x1E00)]
  | .wr16Misaligned _ _ => [(0xF001, 0x1001)]
  | .rd8 _ => [(0xF000, 0x2000)]
  | .wr8 _ _ => [(0xF000, 0x3000)]
  | .rd32 _ => [(0xF000, 0x4000)]
  | .wr32 _ _ => [(0xF000, 0x5000)]
  | .dmaRd => [(0xFFFF, 0x8000)]
  | .dmaWr _ => [(0xFFFF, 0x9000)]
  | .tick _ => [(0xFFFF, 0xA000)]
  | .cdPush _ _ => [(0xFFFF, 0xB000)]
  | .reset => [(0xFFFF, 0xF000)]
  | .intKeyOn _ => [(0xFFFF, 0xE001)]
  | .intKeyOff _ => [(0xFFFF, 0xE002)]
  | .intVoiceStep _ => [(0xFFFF, 0xE003)]
  | .intDecodeBlock _ => [(0xFFFF, 0xE004)]
  | .intInterpolate _ => [(0xFFFF, 0xE005)]
  | .intEffectiveStep _ => [(0xFFFF, 0xE006)]
  | .intPitchAdvance _ _ => [(0xFFFF, 0xE007)]
  | .intAdsrTick _ => [(0xFFFF, 0xE008)]
  | .intMixStep => [(0xFFFF, 0xE010)]
  | .intKeyLatch => [(0xFFFF, 0xE011)]
  | .intCaptureWrite _ _ => [(0xFFFF, 0xE012)]
  | .intFinalMix _ _ => [(0xFFFF, 0xE013)]
  | .intOutputAppend _ _ => [(0xFFFF, 0xE014)]
  | .intReverb _ _ => [(0xFFFF, 0xE020)]

/-- A selector word lies in one of the rows. -/
abbrev InRow (l : List (Nat × Nat)) (selector : BitVec 16) : Prop := ∃ row ∈ l, selector.toNat &&& row.1 = row.2

/-- The encoding of a well-formed instruction carries a selector of its own row. -/
def Statement (i : Instr) : Prop := i.wf = true → InRow (rows i) (encode i).selector

theorem inRow_single {mask value : Nat} {selector : BitVec 16} (h : selector.toNat &&& mask = value) :
    InRow [(mask, value)] selector := ⟨(mask, value), List.mem_singleton.2 rfl, h⟩

/-- A row that fixes the whole selector. -/
theorem inRow_word (word : Nat) (h : (BitVec.ofNat 16 word).toNat &&& 0xFFFF = word) :
    InRow [(0xFFFF, word)] (BitVec.ofNat 16 word) := inRow_single h

/-- The two rows of a voice register: voices 0 to 15 and 16 to 23. -/
theorem inRow_voice (kind : Fin 2) (r : VoiceReg) (n : VoiceId) :
    InRow [(0xFF0F, kind.val * 0x1000 + 0xC00 + r.sub), (0xFF8F, kind.val * 0x1000 + 0xD00 + r.sub)]
      (BitVec.ofNat 16 (kind.val * 0x1000 + (Reg.voice r n).offset)) := by
  revert kind n
  cases r <;> decide +kernel

/-- The rows that fix the kind alone. -/
theorem kind_row (off : Offset) :
    (BitVec.ofNat 16 (0x2 * 0x1000 + off.toNat)).toNat &&& 0xF000 = 0x2000 ∧
      (BitVec.ofNat 16 (0x3 * 0x1000 + off.toNat)).toNat &&& 0xF000 = 0x3000 ∧
      (BitVec.ofNat 16 (0x4 * 0x1000 + off.toNat)).toNat &&& 0xF000 = 0x4000 ∧
      (BitVec.ofNat 16 (0x5 * 0x1000 + off.toNat)).toNat &&& 0xF000 = 0x5000 := by
  revert off
  decide +kernel

/-- The row of the misaligned accesses: an odd offset. -/
theorem odd_row (off : Offset) (h : offsetIsOdd off = true) :
    (BitVec.ofNat 16 (0 * 0x1000 + off.toNat)).toNat &&& 0xF001 = 0x0001 ∧
      (BitVec.ofNat 16 (1 * 0x1000 + off.toNat)).toNat &&& 0xF001 = 0x1001 := by
  revert off
  decide +kernel

/-- The row of the tail of the window, 0xE00 to 0xE7E. -/
theorem tail_row (off : Offset) (h : offsetInTail off = true) :
    (BitVec.ofNat 16 (0 * 0x1000 + off.toNat)).toNat &&& 0xFF81 = 0x0E00 ∧
      (BitVec.ofNat 16 (1 * 0x1000 + off.toNat)).toNat &&& 0xFF81 = 0x1E00 := by
  revert off
  decide +kernel

theorem rd16VolL (n : VoiceId) : Statement (.rd16VolL n) := fun _ => inRow_voice 0 .volL n
theorem rd16VolR (n : VoiceId) : Statement (.rd16VolR n) := fun _ => inRow_voice 0 .volR n
theorem rd16Pitch (n : VoiceId) : Statement (.rd16Pitch n) := fun _ => inRow_voice 0 .pitch n
theorem rd16Start (n : VoiceId) : Statement (.rd16Start n) := fun _ => inRow_voice 0 .start n
theorem rd16AdsrLo (n : VoiceId) : Statement (.rd16AdsrLo n) := fun _ => inRow_voice 0 .adsrLo n
theorem rd16AdsrHi (n : VoiceId) : Statement (.rd16AdsrHi n) := fun _ => inRow_voice 0 .adsrHi n
theorem rd16Env (n : VoiceId) : Statement (.rd16Env n) := fun _ => inRow_voice 0 .env n
theorem rd16Repeat (n : VoiceId) : Statement (.rd16Repeat n) := fun _ => inRow_voice 0 .repeatAddr n
theorem wr16VolL (n : VoiceId) (v : Half) : Statement (.wr16VolL n v) := fun _ => inRow_voice 1 .volL n
theorem wr16VolR (n : VoiceId) (v : Half) : Statement (.wr16VolR n v) := fun _ => inRow_voice 1 .volR n
theorem wr16Pitch (n : VoiceId) (v : Half) : Statement (.wr16Pitch n v) := fun _ => inRow_voice 1 .pitch n
theorem wr16Start (n : VoiceId) (v : Half) : Statement (.wr16Start n v) := fun _ => inRow_voice 1 .start n
theorem wr16AdsrLo (n : VoiceId) (v : Half) : Statement (.wr16AdsrLo n v) := fun _ => inRow_voice 1 .adsrLo n
theorem wr16AdsrHi (n : VoiceId) (v : Half) : Statement (.wr16AdsrHi n v) := fun _ => inRow_voice 1 .adsrHi n
theorem wr16Env (n : VoiceId) (v : Half) : Statement (.wr16Env n v) := fun _ => inRow_voice 1 .env n
theorem wr16Repeat (n : VoiceId) (v : Half) : Statement (.wr16Repeat n v) := fun _ => inRow_voice 1 .repeatAddr n
theorem rd16MvolL : Statement (.rd16MvolL) := fun _ => inRow_word 0x0D80 rfl
theorem wr16MvolL (v : Half) : Statement (.wr16MvolL v) := fun _ => inRow_word 0x1D80 rfl
theorem rd16MvolR : Statement (.rd16MvolR) := fun _ => inRow_word 0x0D82 rfl
theorem wr16MvolR (v : Half) : Statement (.wr16MvolR v) := fun _ => inRow_word 0x1D82 rfl
theorem rd16VLOUT : Statement (.rd16VLOUT) := fun _ => inRow_word 0x0D84 rfl
theorem wr16VLOUT (v : Half) : Statement (.wr16VLOUT v) := fun _ => inRow_word 0x1D84 rfl
theorem rd16VROUT : Statement (.rd16VROUT) := fun _ => inRow_word 0x0D86 rfl
theorem wr16VROUT (v : Half) : Statement (.wr16VROUT v) := fun _ => inRow_word 0x1D86 rfl
theorem rd16KonLo : Statement (.rd16KonLo) := fun _ => inRow_word 0x0D88 rfl
theorem wr16KonLo (v : Half) : Statement (.wr16KonLo v) := fun _ => inRow_word 0x1D88 rfl
theorem rd16KonHi : Statement (.rd16KonHi) := fun _ => inRow_word 0x0D8A rfl
theorem wr16KonHi (v : Half) : Statement (.wr16KonHi v) := fun _ => inRow_word 0x1D8A rfl
theorem rd16KoffLo : Statement (.rd16KoffLo) := fun _ => inRow_word 0x0D8C rfl
theorem wr16KoffLo (v : Half) : Statement (.wr16KoffLo v) := fun _ => inRow_word 0x1D8C rfl
theorem rd16KoffHi : Statement (.rd16KoffHi) := fun _ => inRow_word 0x0D8E rfl
theorem wr16KoffHi (v : Half) : Statement (.wr16KoffHi v) := fun _ => inRow_word 0x1D8E rfl
theorem rd16PmonLo : Statement (.rd16PmonLo) := fun _ => inRow_word 0x0D90 rfl
theorem wr16PmonLo (v : Half) : Statement (.wr16PmonLo v) := fun _ => inRow_word 0x1D90 rfl
theorem rd16PmonHi : Statement (.rd16PmonHi) := fun _ => inRow_word 0x0D92 rfl
theorem wr16PmonHi (v : Half) : Statement (.wr16PmonHi v) := fun _ => inRow_word 0x1D92 rfl
theorem rd16NonLo : Statement (.rd16NonLo) := fun _ => inRow_word 0x0D94 rfl
theorem wr16NonLo (v : Half) : Statement (.wr16NonLo v) := fun _ => inRow_word 0x1D94 rfl
theorem rd16NonHi : Statement (.rd16NonHi) := fun _ => inRow_word 0x0D96 rfl
theorem wr16NonHi (v : Half) : Statement (.wr16NonHi v) := fun _ => inRow_word 0x1D96 rfl
theorem rd16EonLo : Statement (.rd16EonLo) := fun _ => inRow_word 0x0D98 rfl
theorem wr16EonLo (v : Half) : Statement (.wr16EonLo v) := fun _ => inRow_word 0x1D98 rfl
theorem rd16EonHi : Statement (.rd16EonHi) := fun _ => inRow_word 0x0D9A rfl
theorem wr16EonHi (v : Half) : Statement (.wr16EonHi v) := fun _ => inRow_word 0x1D9A rfl
theorem rd16EndxLo : Statement (.rd16EndxLo) := fun _ => inRow_word 0x0D9C rfl
theorem wr16EndxLo (v : Half) : Statement (.wr16EndxLo v) := fun _ => inRow_word 0x1D9C rfl
theorem rd16EndxHi : Statement (.rd16EndxHi) := fun _ => inRow_word 0x0D9E rfl
theorem wr16EndxHi (v : Half) : Statement (.wr16EndxHi v) := fun _ => inRow_word 0x1D9E rfl
theorem rd16Mbase : Statement (.rd16Mbase) := fun _ => inRow_word 0x0DA2 rfl
theorem wr16Mbase (v : Half) : Statement (.wr16Mbase v) := fun _ => inRow_word 0x1DA2 rfl
theorem rd16IrqAddr : Statement (.rd16IrqAddr) := fun _ => inRow_word 0x0DA4 rfl
theorem wr16IrqAddr (v : Half) : Statement (.wr16IrqAddr v) := fun _ => inRow_word 0x1DA4 rfl
theorem rd16XferAddr : Statement (.rd16XferAddr) := fun _ => inRow_word 0x0DA6 rfl
theorem wr16XferAddr (v : Half) : Statement (.wr16XferAddr v) := fun _ => inRow_word 0x1DA6 rfl
theorem rd16XferPort : Statement (.rd16XferPort) := fun _ => inRow_word 0x0DA8 rfl
theorem wr16XferPort (v : Half) : Statement (.wr16XferPort v) := fun _ => inRow_word 0x1DA8 rfl
theorem rd16Spucnt : Statement (.rd16Spucnt) := fun _ => inRow_word 0x0DAA rfl
theorem wr16Spucnt (v : Half) : Statement (.wr16Spucnt v) := fun _ => inRow_word 0x1DAA rfl
theorem rd16Spustat : Statement (.rd16Spustat) := fun _ => inRow_word 0x0DAE rfl
theorem wr16Spustat (v : Half) : Statement (.wr16Spustat v) := fun _ => inRow_word 0x1DAE rfl
theorem rd16CdvolL : Statement (.rd16CdvolL) := fun _ => inRow_word 0x0DB0 rfl
theorem wr16CdvolL (v : Half) : Statement (.wr16CdvolL v) := fun _ => inRow_word 0x1DB0 rfl
theorem rd16CdvolR : Statement (.rd16CdvolR) := fun _ => inRow_word 0x0DB2 rfl
theorem wr16CdvolR (v : Half) : Statement (.wr16CdvolR v) := fun _ => inRow_word 0x1DB2 rfl
theorem rd16ExtvolL : Statement (.rd16ExtvolL) := fun _ => inRow_word 0x0DB4 rfl
theorem wr16ExtvolL (v : Half) : Statement (.wr16ExtvolL v) := fun _ => inRow_word 0x1DB4 rfl
theorem rd16ExtvolR : Statement (.rd16ExtvolR) := fun _ => inRow_word 0x0DB6 rfl
theorem wr16ExtvolR (v : Half) : Statement (.wr16ExtvolR v) := fun _ => inRow_word 0x1DB6 rfl
theorem rd16DAPF1 : Statement (.rd16DAPF1) := fun _ => inRow_word 0x0DC0 rfl
theorem wr16DAPF1 (v : Half) : Statement (.wr16DAPF1 v) := fun _ => inRow_word 0x1DC0 rfl
theorem rd16DAPF2 : Statement (.rd16DAPF2) := fun _ => inRow_word 0x0DC2 rfl
theorem wr16DAPF2 (v : Half) : Statement (.wr16DAPF2 v) := fun _ => inRow_word 0x1DC2 rfl
theorem rd16VIIR : Statement (.rd16VIIR) := fun _ => inRow_word 0x0DC4 rfl
theorem wr16VIIR (v : Half) : Statement (.wr16VIIR v) := fun _ => inRow_word 0x1DC4 rfl
theorem rd16VCOMB1 : Statement (.rd16VCOMB1) := fun _ => inRow_word 0x0DC6 rfl
theorem wr16VCOMB1 (v : Half) : Statement (.wr16VCOMB1 v) := fun _ => inRow_word 0x1DC6 rfl
theorem rd16VCOMB2 : Statement (.rd16VCOMB2) := fun _ => inRow_word 0x0DC8 rfl
theorem wr16VCOMB2 (v : Half) : Statement (.wr16VCOMB2 v) := fun _ => inRow_word 0x1DC8 rfl
theorem rd16VCOMB3 : Statement (.rd16VCOMB3) := fun _ => inRow_word 0x0DCA rfl
theorem wr16VCOMB3 (v : Half) : Statement (.wr16VCOMB3 v) := fun _ => inRow_word 0x1DCA rfl
theorem rd16VCOMB4 : Statement (.rd16VCOMB4) := fun _ => inRow_word 0x0DCC rfl
theorem wr16VCOMB4 (v : Half) : Statement (.wr16VCOMB4 v) := fun _ => inRow_word 0x1DCC rfl
theorem rd16VWALL : Statement (.rd16VWALL) := fun _ => inRow_word 0x0DCE rfl
theorem wr16VWALL (v : Half) : Statement (.wr16VWALL v) := fun _ => inRow_word 0x1DCE rfl
theorem rd16VAPF1 : Statement (.rd16VAPF1) := fun _ => inRow_word 0x0DD0 rfl
theorem wr16VAPF1 (v : Half) : Statement (.wr16VAPF1 v) := fun _ => inRow_word 0x1DD0 rfl
theorem rd16VAPF2 : Statement (.rd16VAPF2) := fun _ => inRow_word 0x0DD2 rfl
theorem wr16VAPF2 (v : Half) : Statement (.wr16VAPF2 v) := fun _ => inRow_word 0x1DD2 rfl
theorem rd16MLSAME : Statement (.rd16MLSAME) := fun _ => inRow_word 0x0DD4 rfl
theorem wr16MLSAME (v : Half) : Statement (.wr16MLSAME v) := fun _ => inRow_word 0x1DD4 rfl
theorem rd16MRSAME : Statement (.rd16MRSAME) := fun _ => inRow_word 0x0DD6 rfl
theorem wr16MRSAME (v : Half) : Statement (.wr16MRSAME v) := fun _ => inRow_word 0x1DD6 rfl
theorem rd16MLCOMB1 : Statement (.rd16MLCOMB1) := fun _ => inRow_word 0x0DD8 rfl
theorem wr16MLCOMB1 (v : Half) : Statement (.wr16MLCOMB1 v) := fun _ => inRow_word 0x1DD8 rfl
theorem rd16MRCOMB1 : Statement (.rd16MRCOMB1) := fun _ => inRow_word 0x0DDA rfl
theorem wr16MRCOMB1 (v : Half) : Statement (.wr16MRCOMB1 v) := fun _ => inRow_word 0x1DDA rfl
theorem rd16MLCOMB2 : Statement (.rd16MLCOMB2) := fun _ => inRow_word 0x0DDC rfl
theorem wr16MLCOMB2 (v : Half) : Statement (.wr16MLCOMB2 v) := fun _ => inRow_word 0x1DDC rfl
theorem rd16MRCOMB2 : Statement (.rd16MRCOMB2) := fun _ => inRow_word 0x0DDE rfl
theorem wr16MRCOMB2 (v : Half) : Statement (.wr16MRCOMB2 v) := fun _ => inRow_word 0x1DDE rfl
theorem rd16DLSAME : Statement (.rd16DLSAME) := fun _ => inRow_word 0x0DE0 rfl
theorem wr16DLSAME (v : Half) : Statement (.wr16DLSAME v) := fun _ => inRow_word 0x1DE0 rfl
theorem rd16DRSAME : Statement (.rd16DRSAME) := fun _ => inRow_word 0x0DE2 rfl
theorem wr16DRSAME (v : Half) : Statement (.wr16DRSAME v) := fun _ => inRow_word 0x1DE2 rfl
theorem rd16MLDIFF : Statement (.rd16MLDIFF) := fun _ => inRow_word 0x0DE4 rfl
theorem wr16MLDIFF (v : Half) : Statement (.wr16MLDIFF v) := fun _ => inRow_word 0x1DE4 rfl
theorem rd16MRDIFF : Statement (.rd16MRDIFF) := fun _ => inRow_word 0x0DE6 rfl
theorem wr16MRDIFF (v : Half) : Statement (.wr16MRDIFF v) := fun _ => inRow_word 0x1DE6 rfl
theorem rd16MLCOMB3 : Statement (.rd16MLCOMB3) := fun _ => inRow_word 0x0DE8 rfl
theorem wr16MLCOMB3 (v : Half) : Statement (.wr16MLCOMB3 v) := fun _ => inRow_word 0x1DE8 rfl
theorem rd16MRCOMB3 : Statement (.rd16MRCOMB3) := fun _ => inRow_word 0x0DEA rfl
theorem wr16MRCOMB3 (v : Half) : Statement (.wr16MRCOMB3 v) := fun _ => inRow_word 0x1DEA rfl
theorem rd16MLCOMB4 : Statement (.rd16MLCOMB4) := fun _ => inRow_word 0x0DEC rfl
theorem wr16MLCOMB4 (v : Half) : Statement (.wr16MLCOMB4 v) := fun _ => inRow_word 0x1DEC rfl
theorem rd16MRCOMB4 : Statement (.rd16MRCOMB4) := fun _ => inRow_word 0x0DEE rfl
theorem wr16MRCOMB4 (v : Half) : Statement (.wr16MRCOMB4 v) := fun _ => inRow_word 0x1DEE rfl
theorem rd16DLDIFF : Statement (.rd16DLDIFF) := fun _ => inRow_word 0x0DF0 rfl
theorem wr16DLDIFF (v : Half) : Statement (.wr16DLDIFF v) := fun _ => inRow_word 0x1DF0 rfl
theorem rd16DRDIFF : Statement (.rd16DRDIFF) := fun _ => inRow_word 0x0DF2 rfl
theorem wr16DRDIFF (v : Half) : Statement (.wr16DRDIFF v) := fun _ => inRow_word 0x1DF2 rfl
theorem rd16MLAPF1 : Statement (.rd16MLAPF1) := fun _ => inRow_word 0x0DF4 rfl
theorem wr16MLAPF1 (v : Half) : Statement (.wr16MLAPF1 v) := fun _ => inRow_word 0x1DF4 rfl
theorem rd16MRAPF1 : Statement (.rd16MRAPF1) := fun _ => inRow_word 0x0DF6 rfl
theorem wr16MRAPF1 (v : Half) : Statement (.wr16MRAPF1 v) := fun _ => inRow_word 0x1DF6 rfl
theorem rd16MLAPF2 : Statement (.rd16MLAPF2) := fun _ => inRow_word 0x0DF8 rfl
theorem wr16MLAPF2 (v : Half) : Statement (.wr16MLAPF2 v) := fun _ => inRow_word 0x1DF8 rfl
theorem rd16MRAPF2 : Statement (.rd16MRAPF2) := fun _ => inRow_word 0x0DFA rfl
theorem wr16MRAPF2 (v : Half) : Statement (.wr16MRAPF2 v) := fun _ => inRow_word 0x1DFA rfl
theorem rd16VLIN : Statement (.rd16VLIN) := fun _ => inRow_word 0x0DFC rfl
theorem wr16VLIN (v : Half) : Statement (.wr16VLIN v) := fun _ => inRow_word 0x1DFC rfl
theorem rd16VRIN : Statement (.rd16VRIN) := fun _ => inRow_word 0x0DFE rfl
theorem wr16VRIN (v : Half) : Statement (.wr16VRIN v) := fun _ => inRow_word 0x1DFE rfl
theorem rd16UnrecDA0 : Statement (.rd16UnrecDA0) := fun _ => inRow_word 0x0DA0 rfl
theorem rd16UnrecDAC : Statement (.rd16UnrecDAC) := fun _ => inRow_word 0x0DAC rfl
theorem rd16UnrecDB8 : Statement (.rd16UnrecDB8) := fun _ => inRow_word 0x0DB8 rfl
theorem rd16UnrecDBA : Statement (.rd16UnrecDBA) := fun _ => inRow_word 0x0DBA rfl
theorem rd16UnrecDBC : Statement (.rd16UnrecDBC) := fun _ => inRow_word 0x0DBC rfl
theorem rd16UnrecDBE : Statement (.rd16UnrecDBE) := fun _ => inRow_word 0x0DBE rfl
theorem rd16UnrecE00 (off : Offset) : Statement (.rd16UnrecE00 off) := fun h => inRow_single (tail_row off h).1
theorem rd16Misaligned (off : Offset) : Statement (.rd16Misaligned off) := fun h => inRow_single (odd_row off h).1
theorem wr16UnrecDA0 (v : Half) : Statement (.wr16UnrecDA0 v) := fun _ => inRow_word 0x1DA0 rfl
theorem wr16UnrecDAC (v : Half) : Statement (.wr16UnrecDAC v) := fun _ => inRow_word 0x1DAC rfl
theorem wr16UnrecDB8 (v : Half) : Statement (.wr16UnrecDB8 v) := fun _ => inRow_word 0x1DB8 rfl
theorem wr16UnrecDBA (v : Half) : Statement (.wr16UnrecDBA v) := fun _ => inRow_word 0x1DBA rfl
theorem wr16UnrecDBC (v : Half) : Statement (.wr16UnrecDBC v) := fun _ => inRow_word 0x1DBC rfl
theorem wr16UnrecDBE (v : Half) : Statement (.wr16UnrecDBE v) := fun _ => inRow_word 0x1DBE rfl
theorem wr16UnrecE00 (off : Offset) (v : Half) : Statement (.wr16UnrecE00 off v) := fun h => inRow_single (tail_row off h).2
theorem wr16Misaligned (off : Offset) (v : Half) : Statement (.wr16Misaligned off v) :=
  fun h => inRow_single (odd_row off h).2
theorem rd8 (off : Offset) : Statement (.rd8 off) := fun _ => inRow_single (kind_row off).1
theorem wr8 (off : Offset) (b : Byte) : Statement (.wr8 off b) := fun _ => inRow_single (kind_row off).2.1
theorem rd32 (off : Offset) : Statement (.rd32 off) := fun _ => inRow_single (kind_row off).2.2.1
theorem wr32 (off : Offset) (w : Word) : Statement (.wr32 off w) := fun _ => inRow_single (kind_row off).2.2.2
theorem dmaRd : Statement (.dmaRd) := fun _ => inRow_word 0x8000 rfl
theorem dmaWr (w : Word) : Statement (.dmaWr w) := fun _ => inRow_word 0x9000 rfl
theorem tick (cycles : Nat) : Statement (.tick cycles) := fun _ => inRow_word 0xA000 rfl
theorem cdPush (l r : Half) : Statement (.cdPush l r) := fun _ => inRow_word 0xB000 rfl
theorem reset : Statement (.reset) := fun _ => inRow_word 0xF000 rfl
theorem intKeyOn (n : VoiceId) : Statement (.intKeyOn n) := fun _ => inRow_word 0xE001 rfl
theorem intKeyOff (n : VoiceId) : Statement (.intKeyOff n) := fun _ => inRow_word 0xE002 rfl
theorem intVoiceStep (n : VoiceId) : Statement (.intVoiceStep n) := fun _ => inRow_word 0xE003 rfl
theorem intDecodeBlock (n : VoiceId) : Statement (.intDecodeBlock n) := fun _ => inRow_word 0xE004 rfl
theorem intInterpolate (n : VoiceId) : Statement (.intInterpolate n) := fun _ => inRow_word 0xE005 rfl
theorem intEffectiveStep (n : VoiceId) : Statement (.intEffectiveStep n) := fun _ => inRow_word 0xE006 rfl
theorem intPitchAdvance (n : VoiceId) (step : BitVec 15) : Statement (.intPitchAdvance n step) :=
  fun _ => inRow_word 0xE007 rfl
theorem intAdsrTick (n : VoiceId) : Statement (.intAdsrTick n) := fun _ => inRow_word 0xE008 rfl
theorem intMixStep : Statement (.intMixStep) := fun _ => inRow_word 0xE010 rfl
theorem intKeyLatch : Statement (.intKeyLatch) := fun _ => inRow_word 0xE011 rfl
theorem intCaptureWrite (cl cr : Half) : Statement (.intCaptureWrite cl cr) := fun _ => inRow_word 0xE012 rfl
theorem intFinalMix (dryL dryR : BitVec 21) : Statement (.intFinalMix dryL dryR) := fun _ => inRow_word 0xE013 rfl
theorem intOutputAppend (outL outR : Half) : Statement (.intOutputAppend outL outR) := fun _ => inRow_word 0xE014 rfl
theorem intReverb (inL inR : Half) : Statement (.intReverb inL inR) := fun _ => inRow_word 0xE020 rfl

end Sys2Proof.Laws.SelectorRow
end

