-- ==== Sys2Proof/Laws/Registers.lean ====
section
/-! SUPPORT. What the register accesses and the DMA bridge can do (spec/40_register_file.md, spec/45_dma_bridge.md): the control
register's effect on the voices, the part of the state each may change, and that each keeps the invariants. -/

namespace Sys2Proof.Machine

open Sys2Proof Sys2Proof.Safety

/-! ### The control register (R190) -/

theorem silenceVoice_change (s : State) (n : VoiceId) : VoiceChange n s (silenceVoice s n) := VoiceChange.setVoice n s _

/-- Silencing the voices changes the voices alone. -/
theorem silence_eq (l : List VoiceId) (s : State) :
    l.foldl silenceVoice s = { s with voices := (l.foldl silenceVoice s).voices } := by
  induction l generalizing s with
  | nil => rfl
  | cons n rest ih => rw [List.foldl_cons, ih]; rfl

/-- Every voice is Off, with its level, last sample and wait counter zeroed. -/
theorem silence_voice (s : State) (n : VoiceId) :
    (allVoices.foldl silenceVoice s).voice n =
      { s.voice n with phase := .off, envLevel := 0, lastSample := 0, adsrWait := 0 } := by
  obtain ⟨t, _, hv, _, hf, _⟩ := foldl_at silenceVoice_change s n
  rw [hf]
  simp [silenceVoice, hv]

theorem silence_ok {s : State} (h : ∀ m : VoiceId, VoiceOk (s.voice m)) (m : VoiceId) :
    VoiceOk ((allVoices.foldl silenceVoice s).voice m) := by
  rw [silence_voice]
  exact ⟨by simp, (h m).cursor, (h m).position, by simp⟩

theorem acknowledgeIrq_voice (s : State) (n : VoiceId) : (acknowledgeIrq s).voice n = s.voice n := by
  rw [acknowledgeIrq_eq]; rfl

/-- The control register written (R190), as one update. -/
theorem writeSpucnt_eq (v : Half) (s : State) :
    writeSpucnt v s =
      { s with
        voices := (writeSpucnt v s).voices
        g := { s.g with spucnt := v, irqFlag := s.g.irqFlag && irq9En v } } := by
  unfold writeSpucnt
  simp only [acknowledgeIrq_eq]
  split
  · rfl
  · rw [silence_eq]

theorem writeSpucnt_voice (v : Half) (s : State) (n : VoiceId) :
    (writeSpucnt v s).voice n =
      if masterEnable v then s.voice n
      else { s.voice n with phase := .off, envLevel := 0, lastSample := 0, adsrWait := 0 } := by
  unfold writeSpucnt
  simp only [acknowledgeIrq_voice]
  split
  · rfl
  · rw [silence_voice]; rfl

theorem writeSpucnt_inv (v : Half) {s : State} (h : Inv s) : Inv (writeSpucnt v s) where
  voices n := by
    rw [writeSpucnt_voice]; split
    · exact h.voices n
    · exact ⟨by simp, (h.voices n).cursor, (h.voices n).position, by simp⟩
  globals := by
    rw [writeSpucnt_eq]
    exact ⟨h.globals.xferEven, h.globals.revEven, h.globals.capEven, h.globals.revLow, h.globals.revHigh, by simp⟩
  output := by rw [writeSpucnt_eq]; exact h.output
  memory := by rw [writeSpucnt_eq]; exact h.memory

/-! ### The port (R189) and the DMA bridge (R410, R411) -/

/-- What a transfer may change: Sound RAM, the cursor, `FAULT`, the result, and the flag and trace through one interrupt. -/
structure TransferChange (s t : State) : Prop where
  voices : t.voices = s.voices
  rv : t.rv = s.rv
  cdq : t.cdq = s.cdq
  out : t.out = s.out
  pending : t.pending = s.pending
  draws : t.draws = s.draws
  global : t.g = { s.g with irqFlag := t.g.irqFlag, xferCur := t.g.xferCur }
  irq : IrqTrace s t

theorem IrqStep.transferChange {s t : State} (h : IrqStep s t) : TransferChange s t :=
  ⟨h.voices, h.rv, h.cdq, h.out, h.pending, h.draws, by rw [h.global], h.toTrace⟩

theorem TransferChange.spucnt {s t : State} (h : TransferChange s t) : t.g.spucnt = s.g.spucnt := by rw [h.global]

theorem TransferChange.trans {s t u : State} (h : TransferChange s t) (h' : TransferChange t u) : TransferChange s u where
  voices := h'.voices.trans h.voices
  rv := h'.rv.trans h.rv
  cdq := h'.cdq.trans h.cdq
  out := h'.out.trans h.out
  pending := h'.pending.trans h.pending
  draws := h'.draws.trans h.draws
  global := by rw [h'.global, h.global]
  irq := IrqTrace.trans h.spucnt h.irq h'.irq

theorem memWrite2_transfer (a : Nat) (v : Half) (s : State) : TransferChange s (memWrite2 a v s) :=
  ⟨rfl, rfl, rfl, rfl, rfl, rfl, rfl, .inl ⟨rfl, rfl⟩⟩

theorem setCursor_transfer (a : RamAddr) (s : State) : TransferChange s (setCursor a s) :=
  ⟨rfl, rfl, rfl, rfl, rfl, rfl, rfl, .inl ⟨rfl, rfl⟩⟩

theorem raise_transfer (e : BlockError) (s : State) : TransferChange s (raise e s) :=
  ⟨rfl, rfl, rfl, rfl, rfl, rfl, rfl, .inl ⟨rfl, rfl⟩⟩

theorem returning_transfer (r : Result) (s : State) : TransferChange s (returning r s) :=
  ⟨rfl, rfl, rfl, rfl, rfl, rfl, rfl, .inl ⟨rfl, rfl⟩⟩

/-- The port with transfer mode 2, as operations in order (R189). -/
theorem writePort_ok {s : State} (h : xferModeOk s.g.spucnt = true) (v : Half) :
    writePort v s = setCursor (s.g.xferCur + 2) (cellIrqCheck s.g.xferCur (memWrite2 s.g.xferCur.toNat v s)) := by
  simp [writePort, h, setCursor]

theorem writePort_error {s : State} (h : xferModeOk s.g.spucnt = false) (v : Half) :
    writePort v s = raise (.invalidState .manualWrite) s := by
  simp [writePort, h]

theorem writePort_change (v : Half) (s : State) : TransferChange s (writePort v s) := by
  cases h : xferModeOk s.g.spucnt
  · rw [writePort_error h]; exact raise_transfer _ s
  · rw [writePort_ok h]
    exact ((memWrite2_transfer _ _ s).trans (cellIrqCheck_step _ _).transferChange).trans (setCursor_transfer _ _)

theorem dmaWrite_change (w : Word) (s : State) : TransferChange s (dmaWrite w s) := by
  unfold dmaWrite
  split
  · exact (((dmaIrqCheck_step s).transferChange.trans (memWrite2_transfer _ _ _)).trans (memWrite2_transfer _ _ _)).trans
      (setCursor_transfer _ _)
  · exact raise_transfer _ s

theorem dmaRead_change (s : State) : TransferChange s (dmaRead s) := by
  unfold dmaRead
  split
  · exact ((dmaIrqCheck_step s).transferChange.trans (setCursor_transfer _ _)).trans (returning_transfer _ _)
  · exact raise_transfer _ s

theorem transfer_globalOk {s t : State} (h : TransferChange s t) (hx : t.g.xferCur.toNat % 2 = 0) (hs : GlobalOk s.g) :
    GlobalOk t.g := by
  rw [h.global]
  refine ⟨hx, hs.revEven, hs.capEven, hs.revLow, hs.revHigh, fun hf => ?_⟩
  rcases h.irq with ⟨_, h2⟩ | ⟨h1, _⟩
  · exact hs.irq (h2 ▸ hf)
  · exact h1

theorem transfer_inv {s t : State} (h : TransferChange s t) (hx : t.g.xferCur.toNat % 2 = 0)
    (hm : Memory.wf t.ram = true) (hs : Inv s) : Inv t where
  voices n := by rw [voice_of_voices h.voices]; exact hs.voices n
  globals := transfer_globalOk h hx hs.globals
  output := by rw [h.out]; exact hs.output
  memory := hm

theorem cursor_step_even {a : RamAddr} (h : a.toNat % 2 = 0) : (a + 2).toNat % 2 = 0 ∧ (a + 4).toNat % 2 = 0 := by
  have h2 : (2 : RamAddr).toNat = 2 := rfl
  have h4 : (4 : RamAddr).toNat = 4 := rfl
  rw [BitVec.toNat_add, BitVec.toNat_add, h2, h4]; omega

theorem writePort_inv (v : Half) {s : State} (h : Inv s) : Inv (writePort v s) := by
  refine transfer_inv (writePort_change v s) ?_ ?_ h <;> cases hm : xferModeOk s.g.spucnt
  · rw [writePort_error hm]; exact h.globals.xferEven
  · rw [writePort_ok hm]; exact (cursor_step_even h.globals.xferEven).1
  · rw [writePort_error hm]; exact h.memory
  · rw [writePort_ok hm, setCursor_ram, (cellIrqCheck_step _ _).ram]; exact memWrite2_wf h.memory _ _

theorem dmaWrite_inv (w : Word) {s : State} (h : Inv s) : Inv (dmaWrite w s) := by
  refine transfer_inv (dmaWrite_change w s) ?_ ?_ h <;> unfold dmaWrite <;> split
  · exact (cursor_step_even h.globals.xferEven).2
  · exact h.globals.xferEven
  · exact memWrite2_wf (memWrite2_wf (by rw [(dmaIrqCheck_step s).ram]; exact h.memory) _ _) _ _
  · exact h.memory

theorem dmaRead_inv {s : State} (h : Inv s) : Inv (dmaRead s) := by
  refine transfer_inv (dmaRead_change s) ?_ ?_ h <;> unfold dmaRead <;> split
  · exact (cursor_step_even h.globals.xferEven).2
  · exact h.globals.xferEven
  · simp only [returning_ram, setCursor_ram]; rw [(dmaIrqCheck_step s).ram]; exact h.memory
  · exact h.memory

/-! ### Every register write -/

theorem envWritten_toNat (v : Half) : (envWritten v).toNat = v.toNat % 0x8000 := by
  have := v.isLt
  simp only [envWritten, BitVec.toNat_setWidth, BitVec.extractLsb'_toNat, Nat.shiftRight_zero]
  omega

theorem setVoice_inv {s : State} {n : VoiceId} {v : Voice} (hv : VoiceOk v) (h : Inv s) : Inv (s.setVoice n v) where
  voices m := by rw [voice_setVoice]; split; exacts [hv, h.voices m]
  globals := h.globals
  output := h.output
  memory := h.memory

theorem writeVoiceReg_inv (n : VoiceId) (v : Half) (r : VoiceReg) {s : State} (h : Inv s) : Inv (writeVoiceReg n v s r) := by
  have hn := h.voices n
  cases r
  case adsrHi =>
    unfold writeVoiceReg
    simp only
    split
    · exact ⟨h.voices, h.globals, h.output, h.memory⟩
    · exact setVoice_inv ⟨hn.level, hn.cursor, hn.position, hn.wait⟩ h
  case env =>
    exact setVoice_inv ⟨by show (envWritten v).toNat ≤ 0x7FFF; rw [envWritten_toNat]; omega, hn.cursor, hn.position,
      hn.wait⟩ h
  all_goals exact setVoice_inv ⟨hn.level, hn.cursor, hn.position, hn.wait⟩ h

/-- No register write leaves the invariants. -/
theorem writeReg_inv (v : Half) (r : Reg) {s : State} (h : Inv s) : Inv (writeReg v s r) := by
  have hg := h.globals
  have hc : (cursorOf v).toNat = byteAddr v := cursorOf_toNat v
  have h8 : byteAddr v % 8 = 0 := by unfold byteAddr; omega
  have hhi : byteAddr v ≤ 0x7FFF8 := by have := v.isLt; unfold byteAddr; omega
  cases r
  case voice r n => exact writeVoiceReg_inv n v r h
  case spucnt => exact writeSpucnt_inv v h
  case xferPort => exact writePort_inv v h
  case mbase =>
    exact ⟨h.voices, ⟨hg.xferEven, by show (cursorOf v).toNat % 2 = 0; omega, hg.capEven,
      by show byteAddr v ≤ (cursorOf v).toNat; omega, by show (cursorOf v).toNat ≤ 0x7FFFE; omega, hg.irq⟩, h.output,
      h.memory⟩
  case xferAddr =>
    exact ⟨h.voices, ⟨by show (cursorOf v).toNat % 2 = 0; omega, hg.revEven, hg.capEven, hg.revLow, hg.revHigh, hg.irq⟩,
      h.output, h.memory⟩
  all_goals first
    | exact h
    | exact ⟨h.voices, h.globals, h.output, h.memory⟩
    | exact ⟨h.voices, ⟨hg.xferEven, hg.revEven, hg.capEven, hg.revLow, hg.revHigh, hg.irq⟩, h.output, h.memory⟩

/-- What a register write may change: not the queue, the output, the result or the draws. -/
structure RegisterChange (s t : State) : Prop where
  cdq : t.cdq = s.cdq
  out : t.out = s.out
  result : t.result = s.result
  pending : t.pending = s.pending
  draws : t.draws = s.draws
  count : t.g.cycleCount = s.g.cycleCount

theorem RegisterChange.trans {s t u : State} (h : RegisterChange s t) (h' : RegisterChange t u) : RegisterChange s u :=
  ⟨h'.cdq.trans h.cdq, h'.out.trans h.out, h'.result.trans h.result, h'.pending.trans h.pending, h'.draws.trans h.draws,
    h'.count.trans h.count⟩

theorem writePort_result (v : Half) (s : State) : (writePort v s).result = s.result := by
  cases h : xferModeOk s.g.spucnt
  · rw [writePort_error h]; rfl
  · rw [writePort_ok h, setCursor_result, (cellIrqCheck_step _ _).result]; rfl

theorem writeReg_change (v : Half) (r : Reg) (s : State) : RegisterChange s (writeReg v s r) := by
  cases r
  case voice r n =>
    cases r
    case adsrHi =>
      show RegisterChange s (if adsrReserved v then _ else _)
      split <;> exact ⟨rfl, rfl, rfl, rfl, rfl, rfl⟩
    all_goals exact ⟨rfl, rfl, rfl, rfl, rfl, rfl⟩
  case spucnt =>
    show RegisterChange s (writeSpucnt v s)
    rw [writeSpucnt_eq]; exact ⟨rfl, rfl, rfl, rfl, rfl, rfl⟩
  case xferPort =>
    have h := writePort_change v s
    exact ⟨h.cdq, h.out, writePort_result v s, h.pending, h.draws, by
      show (writePort v s).g.cycleCount = _; rw [h.global]⟩
  all_goals exact ⟨rfl, rfl, rfl, rfl, rfl, rfl⟩

/-- Of the registers, only the control register touches the control register. -/
theorem writeReg_spucnt {r : Reg} (h : r ≠ .spucnt) (v : Half) (s : State) : (writeReg v s r).g.spucnt = s.g.spucnt := by
  cases r
  case voice r n =>
    cases r
    case adsrHi =>
      show (if adsrReserved v then raise (.adsrReservedBit n) s else _ : State).g.spucnt = _
      split <;> rfl
    all_goals rfl
  case spucnt => exact absurd rfl h
  case xferPort => exact (writePort_change v s).spucnt
  all_goals rfl

/-- A register write other than one of the control register never clears the pending flag; any write adds at most one
interrupt to the trace. -/
theorem writeReg_grows {r : Reg} (h : r ≠ .spucnt) (v : Half) (s : State) : TraceGrows s (writeReg v s r) := by
  cases r
  case voice r n =>
    cases r
    case adsrHi =>
      show TraceGrows s (if adsrReserved v then raise (.adsrReservedBit n) s else _)
      split <;> exact ⟨List.prefix_refl _, .inl ⟨rfl, rfl⟩⟩
    all_goals exact ⟨List.prefix_refl _, .inl ⟨rfl, rfl⟩⟩
  case spucnt => exact absurd rfl h
  case xferPort => exact (writePort_change v s).irq.grows
  all_goals exact ⟨List.prefix_refl _, .inl ⟨rfl, rfl⟩⟩

/-! ### Reads -/

/-- A half-word read returns the register and changes nothing, or is the unimplemented-register condition. -/
theorem readHalf_cases (p : Params) (r : Reg) (s : State) :
    (∃ w, readReg s r = some w ∧ readHalf p r s = { s with result := .half w }) ∨
      (r = .xferPort ∧ readHalf p r s = unimplemented p .rd16 0xDA8 (.half 0) s) := by
  cases r <;> first | exact .inl ⟨_, rfl, rfl⟩ | exact .inr ⟨rfl, rfl⟩

end Sys2Proof.Machine
end

