-- ==== Sys2Proof/Tests/Slice0.lean ====
section
/-! SUPPORT. Tests. Expected values are taken from the spec: the words from spec/30_encoding.md, the numbers from
spec/95_test_vectors.md and the examples of the rules named. Witnesses: one theorem for each statement with hypotheses, a
state and operands that meet them together, at boundary values. -/

namespace Sys2Proof.Tests

open Sys2Proof Sys2Proof.Machine Sys2Proof.Safety

-- one theorem at a time: each kernel evaluation below would otherwise hold a thread while it waits for the one before it
set_option Elab.async false

/-! ### Well-formedness: an ill-formed term for each check -/

theorem test_wf_unrecE00_below : Instr.wf (.rd16UnrecE00 0xDFE) = false := by decide
theorem test_wf_unrecE00_above : Instr.wf (.wr16UnrecE00 0xE80 0) = false := by decide
theorem test_wf_unrecE00_odd : Instr.wf (.rd16UnrecE00 0xE01) = false ∧ Instr.wf (.wr16UnrecE00 0xE7F 1) = false := by decide
theorem test_wf_misaligned_even : Instr.wf (.rd16Misaligned 0xC02) = false ∧ Instr.wf (.wr16Misaligned 0xDA8 1) = false := by decide
theorem test_wf_step_above_cap : Instr.wf (.intPitchAdvance 0 0x4001) = false := by decide

/-! ### Decoding: words written out from the kinds of R111 and the offsets of R113 to R115, R126 -/

/-- Each word and operand decodes to the instruction beside it. -/
def decodesTo (rows : List (Nat × Nat × Instr)) : Bool :=
  rows.all fun row => decide (decode { selector := BitVec.ofNat 16 row.1, operand := row.2.1 } = .instr row.2.2)

theorem test_decode_voice_reads : decodesTo
    [(0x0D70, 0x0, .rd16VolL 23), (0x0C32, 0x0, .rd16VolR 3),
     (0x0D14, 0x0, .rd16Pitch 17), (0x0C56, 0x0, .rd16Start 5),
     (0x0C18, 0x0, .rd16AdsrLo 1), (0x0D6A, 0x0, .rd16AdsrHi 22),
     (0x0CCC, 0x0, .rd16Env 12), (0x0C0E, 0x0, .rd16Repeat 0)] = true := by decide +kernel

theorem test_decode_voice_writes : decodesTo
    [(0x1D70, 0x1234, .wr16VolL 23 0x1234), (0x1C32, 0xABCD, .wr16VolR 3 0xABCD),
     (0x1D14, 0x7FFF, .wr16Pitch 17 0x7FFF), (0x1C56, 0xFFFF, .wr16Start 5 0xFFFF),
     (0x1C18, 0x1, .wr16AdsrLo 1 0x1), (0x1D6A, 0x8000, .wr16AdsrHi 22 0x8000),
     (0x1CCC, 0x1234, .wr16Env 12 0x1234), (0x1C0E, 0xABCD, .wr16Repeat 0 0xABCD)] = true := by decide +kernel

theorem test_decode_global_reads_1 : decodesTo
    [(0x0D80, 0x0, .rd16MvolL), (0x0D82, 0x0, .rd16MvolR),
     (0x0D84, 0x0, .rd16VLOUT), (0x0D86, 0x0, .rd16VROUT),
     (0x0D88, 0x0, .rd16KonLo), (0x0D8A, 0x0, .rd16KonHi),
     (0x0D8C, 0x0, .rd16KoffLo), (0x0D8E, 0x0, .rd16KoffHi),
     (0x0D90, 0x0, .rd16PmonLo), (0x0D92, 0x0, .rd16PmonHi),
     (0x0D94, 0x0, .rd16NonLo), (0x0D96, 0x0, .rd16NonHi),
     (0x0D98, 0x0, .rd16EonLo), (0x0D9A, 0x0, .rd16EonHi),
     (0x0D9C, 0x0, .rd16EndxLo), (0x0D9E, 0x0, .rd16EndxHi)] = true := by decide +kernel

theorem test_decode_global_reads_2 : decodesTo
    [(0x0DA2, 0x0, .rd16Mbase), (0x0DA4, 0x0, .rd16IrqAddr),
     (0x0DA6, 0x0, .rd16XferAddr), (0x0DA8, 0x0, .rd16XferPort),
     (0x0DAA, 0x0, .rd16Spucnt), (0x0DAE, 0x0, .rd16Spustat),
     (0x0DB0, 0x0, .rd16CdvolL), (0x0DB2, 0x0, .rd16CdvolR),
     (0x0DB4, 0x0, .rd16ExtvolL), (0x0DB6, 0x0, .rd16ExtvolR)] = true := by decide +kernel

theorem test_decode_global_writes_1 : decodesTo
    [(0x1D80, 0xFFFF, .wr16MvolL 0xFFFF), (0x1D82, 0x8000, .wr16MvolR 0x8000),
     (0x1D84, 0xABCD, .wr16VLOUT 0xABCD), (0x1D86, 0xFFFF, .wr16VROUT 0xFFFF),
     (0x1D88, 0x8000, .wr16KonLo 0x8000), (0x1D8A, 0xABCD, .wr16KonHi 0xABCD),
     (0x1D8C, 0xFFFF, .wr16KoffLo 0xFFFF), (0x1D8E, 0x8000, .wr16KoffHi 0x8000),
     (0x1D90, 0xABCD, .wr16PmonLo 0xABCD), (0x1D92, 0xFFFF, .wr16PmonHi 0xFFFF),
     (0x1D94, 0x8000, .wr16NonLo 0x8000), (0x1D96, 0xABCD, .wr16NonHi 0xABCD),
     (0x1D98, 0xFFFF, .wr16EonLo 0xFFFF), (0x1D9A, 0x8000, .wr16EonHi 0x8000),
     (0x1D9C, 0xABCD, .wr16EndxLo 0xABCD), (0x1D9E, 0xFFFF, .wr16EndxHi 0xFFFF)] = true := by decide +kernel

theorem test_decode_global_writes_2 : decodesTo
    [(0x1DA2, 0x8000, .wr16Mbase 0x8000), (0x1DA4, 0xABCD, .wr16IrqAddr 0xABCD),
     (0x1DA6, 0xFFFF, .wr16XferAddr 0xFFFF), (0x1DA8, 0x8000, .wr16XferPort 0x8000),
     (0x1DAA, 0xABCD, .wr16Spucnt 0xABCD), (0x1DAE, 0xFFFF, .wr16Spustat 0xFFFF),
     (0x1DB0, 0x8000, .wr16CdvolL 0x8000), (0x1DB2, 0xABCD, .wr16CdvolR 0xABCD),
     (0x1DB4, 0xFFFF, .wr16ExtvolL 0xFFFF), (0x1DB6, 0x8000, .wr16ExtvolR 0x8000)] = true := by decide +kernel

theorem test_decode_reverb_reads_1 : decodesTo
    [(0x0DC0, 0x0, .rd16DAPF1), (0x0DC2, 0x0, .rd16DAPF2),
     (0x0DC4, 0x0, .rd16VIIR), (0x0DC6, 0x0, .rd16VCOMB1),
     (0x0DC8, 0x0, .rd16VCOMB2), (0x0DCA, 0x0, .rd16VCOMB3),
     (0x0DCC, 0x0, .rd16VCOMB4), (0x0DCE, 0x0, .rd16VWALL),
     (0x0DD0, 0x0, .rd16VAPF1), (0x0DD2, 0x0, .rd16VAPF2),
     (0x0DD4, 0x0, .rd16MLSAME), (0x0DD6, 0x0, .rd16MRSAME),
     (0x0DD8, 0x0, .rd16MLCOMB1), (0x0DDA, 0x0, .rd16MRCOMB1),
     (0x0DDC, 0x0, .rd16MLCOMB2), (0x0DDE, 0x0, .rd16MRCOMB2)] = true := by decide +kernel

theorem test_decode_reverb_reads_2 : decodesTo
    [(0x0DE0, 0x0, .rd16DLSAME), (0x0DE2, 0x0, .rd16DRSAME),
     (0x0DE4, 0x0, .rd16MLDIFF), (0x0DE6, 0x0, .rd16MRDIFF),
     (0x0DE8, 0x0, .rd16MLCOMB3), (0x0DEA, 0x0, .rd16MRCOMB3),
     (0x0DEC, 0x0, .rd16MLCOMB4), (0x0DEE, 0x0, .rd16MRCOMB4),
     (0x0DF0, 0x0, .rd16DLDIFF), (0x0DF2, 0x0, .rd16DRDIFF),
     (0x0DF4, 0x0, .rd16MLAPF1), (0x0DF6, 0x0, .rd16MRAPF1),
     (0x0DF8, 0x0, .rd16MLAPF2), (0x0DFA, 0x0, .rd16MRAPF2),
     (0x0DFC, 0x0, .rd16VLIN), (0x0DFE, 0x0, .rd16VRIN)] = true := by decide +kernel

theorem test_decode_reverb_writes_1 : decodesTo
    [(0x1DC0, 0xABCD, .wr16DAPF1 0xABCD), (0x1DC2, 0xFFFF, .wr16DAPF2 0xFFFF),
     (0x1DC4, 0x8000, .wr16VIIR 0x8000), (0x1DC6, 0xABCD, .wr16VCOMB1 0xABCD),
     (0x1DC8, 0xFFFF, .wr16VCOMB2 0xFFFF), (0x1DCA, 0x8000, .wr16VCOMB3 0x8000),
     (0x1DCC, 0xABCD, .wr16VCOMB4 0xABCD), (0x1DCE, 0xFFFF, .wr16VWALL 0xFFFF),
     (0x1DD0, 0x8000, .wr16VAPF1 0x8000), (0x1DD2, 0xABCD, .wr16VAPF2 0xABCD),
     (0x1DD4, 0xFFFF, .wr16MLSAME 0xFFFF), (0x1DD6, 0x8000, .wr16MRSAME 0x8000),
     (0x1DD8, 0xABCD, .wr16MLCOMB1 0xABCD), (0x1DDA, 0xFFFF, .wr16MRCOMB1 0xFFFF),
     (0x1DDC, 0x8000, .wr16MLCOMB2 0x8000), (0x1DDE, 0xABCD, .wr16MRCOMB2 0xABCD)] = true := by decide +kernel

theorem test_decode_reverb_writes_2 : decodesTo
    [(0x1DE0, 0xFFFF, .wr16DLSAME 0xFFFF), (0x1DE2, 0x8000, .wr16DRSAME 0x8000),
     (0x1DE4, 0xABCD, .wr16MLDIFF 0xABCD), (0x1DE6, 0xFFFF, .wr16MRDIFF 0xFFFF),
     (0x1DE8, 0x8000, .wr16MLCOMB3 0x8000), (0x1DEA, 0xABCD, .wr16MRCOMB3 0xABCD),
     (0x1DEC, 0xFFFF, .wr16MLCOMB4 0xFFFF), (0x1DEE, 0x8000, .wr16MRCOMB4 0x8000),
     (0x1DF0, 0xABCD, .wr16DLDIFF 0xABCD), (0x1DF2, 0xFFFF, .wr16DRDIFF 0xFFFF),
     (0x1DF4, 0x8000, .wr16MLAPF1 0x8000), (0x1DF6, 0xABCD, .wr16MRAPF1 0xABCD),
     (0x1DF8, 0xFFFF, .wr16MLAPF2 0xFFFF), (0x1DFA, 0x8000, .wr16MRAPF2 0x8000),
     (0x1DFC, 0xABCD, .wr16VLIN 0xABCD), (0x1DFE, 0xFFFF, .wr16VRIN 0xFFFF)] = true := by decide +kernel

theorem test_decode_unrecognised : decodesTo
    [(0x0DA0, 0x0, .rd16UnrecDA0), (0x0DAC, 0x0, .rd16UnrecDAC),
     (0x0DB8, 0x0, .rd16UnrecDB8), (0x0DBA, 0x0, .rd16UnrecDBA),
     (0x0DBC, 0x0, .rd16UnrecDBC), (0x0DBE, 0x0, .rd16UnrecDBE),
     (0x0E7E, 0x0, .rd16UnrecE00 0xE7E), (0x0C01, 0x0, .rd16Misaligned 0xC01),
     (0x1DA0, 0x1234, .wr16UnrecDA0 0x1234), (0x1DAC, 0xABCD, .wr16UnrecDAC 0xABCD),
     (0x1DB8, 0x7FFF, .wr16UnrecDB8 0x7FFF), (0x1DBA, 0xFFFF, .wr16UnrecDBA 0xFFFF),
     (0x1DBC, 0x1, .wr16UnrecDBC 0x1), (0x1DBE, 0x8000, .wr16UnrecDBE 0x8000),
     (0x1E00, 0x1234, .wr16UnrecE00 0xE00 0x1234), (0x1C01, 0xABCD, .wr16Misaligned 0xC01 0xABCD)] = true := by decide +kernel

theorem test_decode_sized_and_entries : decodesTo
    [(0x2DAF, 0x0, .rd8 0xDAF), (0x3DA8, 0xFF, .wr8 0xDA8 0xFF),
     (0x4D9C, 0x0, .rd32 0xD9C), (0x5D88, 0x80000001, .wr32 0xD88 0x80000001),
     (0x8000, 0x0, .dmaRd), (0x9000, 0xFFFFFFFF, .dmaWr 0xFFFFFFFF),
     (0xA000, 0x123456789, .tick 0x123456789), (0xB000, 0xC0004000, .cdPush 0x4000 0xC000),
     (0xF000, 0x0, .reset)] = true := by decide +kernel

theorem test_decode_micro_operations : decodesTo
    [(0xE001, 0x17, .intKeyOn 23), (0xE002, 0x17, .intKeyOff 23),
     (0xE003, 0x17, .intVoiceStep 23), (0xE004, 0x17, .intDecodeBlock 23),
     (0xE005, 0x17, .intInterpolate 23), (0xE006, 0x17, .intEffectiveStep 23),
     (0xE007, 0x80017, .intPitchAdvance 23 0x4000), (0xE008, 0x17, .intAdsrTick 23),
     (0xE010, 0x0, .intMixStep), (0xE011, 0x0, .intKeyLatch),
     (0xE012, 0x80017FFF, .intCaptureWrite 0x7FFF 0x8001), (0xE013, 0x2468ACFFFFF, .intFinalMix 0x0FFFFF 0x123456),
     (0xE014, 0x80017FFF, .intOutputAppend 0x7FFF 0x8001), (0xE020, 0x80017FFF, .intReverb 0x7FFF 0x8001)] = true := by decide +kernel

/-- Words that stand for no transaction are rejected by name (R110, R111; log 10). -/
theorem test_decode_rejects :
    decode { selector := 0x6C00, operand := 0 } = .rejected (.unusedKind 6) ∧
    decode { selector := 0xD000, operand := 0 } = .rejected (.unusedKind 13) ∧
    decode { selector := 0x0E80, operand := 0 } = .rejected (.outsideWindow 0xE80) ∧
    decode { selector := 0x9004, operand := 0 } = .rejected (.badEntryOffset 4) ∧
    decode { selector := 0xE009, operand := 0 } = .rejected (.unknownMicroOp 9) ∧
    decode { selector := 0x1C00, operand := 0x10000 } = .rejected .operandTooWide ∧
    decode { selector := 0xE001, operand := 24 } = .rejected (.noSuchVoice 24) := by decide +kernel

/-- A table row's word, operand bits zero: `WR16 SPUCNT` (R114, R117). -/
theorem test_decode_table_word : decodeTableWord 32 0xC0611DAA = some (.wr16Spucnt 0xC061) := by decide +kernel

/-! ### Small states, and what a step leaves -/

/-- The state after a step; the reset state if it stopped. -/
def after : Host.Outcome State Fault Refusal → State
  | .next s => s
  | .fault _ => State.reset
  | .refused _ => State.reset

/-- The reset state with `SPUCNT` at a value. -/
def ctl (v : Half) : State := { State.reset with g := { Global.reset with spucnt := v } }

/-- A state with voice 0 replaced. -/
def voice0 (v : Voice) : State := State.reset.setVoice 0 v

/-- Bytes stored from an address on. -/
def withBytes (a : Nat) : List Byte → State → State
  | [], s => s
  | b :: rest, s => withBytes (a + 1) rest (memWrite1 a b s)

/-- Test kernel `K_LIN` of spec/95_test_vectors.md section 0, lenient mode, noise 0. -/
def lin : Params where
  strict := false
  interp f := { c0 := 0, c1 := 0, c2 := BitVec.ofNat 16 ((0x1000 - f.toNat) * 4), c3 := BitVec.ofNat 16 (f.toNat * 4) }
  noise _ := 0
  strayed _ := 0

/-- Test kernel `K_BOX`, strict mode. -/
def box : Params where
  strict := true
  interp _ := { c0 := 0x2000, c1 := 0x2000, c2 := 0x2000, c3 := 0x2000 }
  noise _ := 0
  strayed _ := 0

/-! ### T-REG: registers -/

/-- REG1: key-on requests accumulate, bits 15:8 of the high half are dropped. -/
theorem test_reg1_kon :
    (after (exec (.wr16KonLo 4) { State.reset with g := { Global.reset with konPend := 1 } })).g.konPend = 5 ∧
    (after (exec (.wr16KonHi 0xFF80) { State.reset with g := { Global.reset with konPend := 5 } })).g.konPend = 0x800005 := by
  decide +kernel

/-- REG2: plain mask registers are replaced. -/
theorem test_reg2_pmon :
    (after (exec (.wr16PmonLo 2) { State.reset with g := { Global.reset with pmon := 0xFFFF } })).g.pmon = 2 ∧
    (after (exec (.wr16PmonHi 0xFFFF) { State.reset with g := { Global.reset with pmon := 2 } })).g.pmon = 0xFF0002 := by
  decide +kernel

/-- REG3: a byte and a word read of `PITCH(3)`. -/
theorem test_reg3_sized :
    (after (exec (.rd8 0xC35) (State.reset.setVoice 3 { Voice.reset with pitch := 0xFF01 }))).result = .byte 0xFF ∧
    (after (exec (.rd32 0xC34) (State.reset.setVoice 3 { Voice.reset with pitch := 0xFFFF }))).result = .word 0xFFFF := by
  decide +kernel

/-- REG4: the level keeps 15 bits. -/
theorem test_reg4_env : ((after (exec (.wr16Env 3 0xFFFF) State.reset)).voice 3).envLevel = 0x7FFF := by decide +kernel

/-- REG5: a word write of the key-on register. -/
theorem test_reg5_wr32 : (after (exec (.wr32 0xD88 0x00800001) State.reset)).g.konPend = 0x800001 := by decide +kernel

/-- REG8: `MBASE` reloads the reverb cursor. -/
theorem test_reg8_mbase : (after (exec (.wr16Mbase 0xF000) State.reset)).g.revCur = 0x78000 := by decide +kernel

/-- REG9: `XFER_ADDR` reloads the transfer cursor and reads back as written. -/
theorem test_reg9_xfer : (after (exec (.wr16XferAddr 0xFFFF) State.reset)).g.xferCur = 0x7FFF8 := by decide +kernel

/-- REG10: the status after an interrupt. -/
theorem test_reg10_spustat :
    (after (exec .rd16Spustat { State.reset with g := { Global.reset with spucnt := 0xC060, irqFlag := true } })).result =
      .half 0x0060 := by decide +kernel

/-- REG11 and REG12: an unrecognised offset, lenient and strict. -/
theorem test_reg11_reg12_unrecognised :
    (unimplemented lin .rd16 0xDAC (.half 0) State.reset).trace = [.logUnimplemented .rd16 0xDAC] ∧
    (unimplemented lin .rd16 0xDAC (.half 0) State.reset).result = .half 0 ∧
    (unimplemented box .rd16 0xDAC (.half 0) State.reset).fault = some (.unimplementedRegister .rd16 0xDAC) := by
  decide +kernel

/-- REG13: a word read at an offset that is no multiple of 4 is logged; one at 0xD88 is legal. -/
theorem test_reg13_rd32 :
    (readWordAt lin 0xDA6 State.reset).trace = [.logUnimplemented .rd32 0xDA6] ∧
    (readWordAt lin 0xD88 State.reset).result = .word 0 := by decide +kernel

/-- REG14: the reserved bit of `ADSR_HI`. -/
theorem test_reg14_adsrHi :
    (after (exec (.wr16AdsrHi 5 0x2000) State.reset)).fault = some (.adsrReservedBit 5) ∧
    ((after (exec (.wr16AdsrHi 5 0x2000) State.reset)).voice 5).adsrHi = 0 := by decide +kernel

/-- REG15: the port in mode 0. -/
theorem test_reg15_port : (after (exec (.wr16XferPort 1) State.reset)).fault = some (.invalidState .manualWrite) := by
  decide +kernel

/-- REG16: a DMA word at 0x7FFFE wraps. -/
theorem test_reg16_wrap :
    (after (exec (.dmaWr 0xAAAABBBB) { ctl 0x0020 with g := { (ctl 0x0020).g with xferCur := 0x7FFFE } })).ram =
      [(0, 0xAA), (1, 0xAA), (0x7FFFE, 0xBB), (0x7FFFF, 0xBB)] := by decide +kernel

/-- R190's example of clearing the enables, and S6: the voice is Off with its sample zeroed, its cursor kept. -/
theorem test_spucnt_disable :
    let s := (ctl 0xC060).setVoice 0
      { Voice.reset with phase := .sustain, envLevel := 0x77FF, lastSample := 1535, cur := 0x1000 }
    let t := after (exec (.wr16Spucnt 0x4020) { s with g := { s.g with irqFlag := true } })
    (t.voice 0).phase = .off ∧ (t.voice 0).lastSample = 0 ∧ (t.voice 0).cur = 0x1000 ∧ t.g.irqFlag = false := by decide +kernel

/-! ### T-ADPCM -/

/-- The first samples of a decode of the block with these bytes at 0x01000, with `prev` in `buf[25..27]`. -/
def decoded (bytes : List Byte) (prev : List Half) (count : Nat) : List Int :=
  let old : Vector Half 28 := Vector.ofFn fun i => if i.val < 25 then 0 else (prev[i.val - 25]?).getD 0
  let s := withBytes 0x1000 bytes (voice0 { Voice.reset with cur := 0x1000, buf := old })
  (((after (exec (.intDecodeBlock 0) s)).voice 0).buf.toList.take count).map s16

/-- V2b and V3: nibble order, shift 5; filter 1. -/
theorem test_adpcm_v2b_v3 :
    decoded [0x05, 0x00, 0x87, 0xF1] [] 5 = [896, -1024, 128, -128, 0] ∧
    decoded (0x1C :: 0x00 :: List.replicate 14 0x11) [] 11 = [1, 2, 3, 4, 5, 6, 7, 8, 9, 9, 9] := by decide +kernel

/-- V8 and V5: history across blocks; filter 3. -/
theorem test_adpcm_v5_v8 :
    decoded [0x38, 0x04, 0x9F, 0x35, 0x7A, 0xE0] [] 9 = [-16, -136, -114, -10, -13, 101, 166, 135, 64] ∧
    decoded [0x2C, 0x00] [100, 200, 300] 8 = [377, 434, 474, 499, 512, 515, 509, 496] := by decide +kernel

/-! ### T-INT -/

/-- I2, I5, I6 and I7, with both kernels. -/
theorem test_interpolate :
    let v : Voice := { Voice.reset with buf := #v[100, 200, 300, 400, 0x8000, 0x8000, 0x8000, 0x8000, 0, 0, 0, 0, 0, 0, 0, 0,
                                                  0, 0, 0, 0, 0, 0, 0, 0, 0, 0, 0, 0] }
    let w : Voice := { v with hist := #v[10, 20, 30] }
    interpolate lin { v with pcount := 0x03800 } = 175 ∧ interpolate box { v with pcount := 0x03800 } = 250 ∧
    interpolate lin { w with pcount := 0x00FFF } = 49 ∧ interpolate box { w with pcount := 0x01000 } = 87 ∧
    interpolate lin { w with pcount := 0x01400 } = 62 := by decide +kernel

/-! ### T-PITCH -/

/-- The step of voice 1, modulated by voice 0 (P1, P2, P3, P5, P7). -/
def modulated (pitch last : Half) : Result :=
  let s := (voice0 { Voice.reset with lastSample := last }).setVoice 1 { Voice.reset with pitch := pitch }
  (after (exec (.intEffectiveStep 1) { s with g := { s.g with pmon := 2 } })).result

theorem test_pitch_modulated :
    modulated 0x1000 0x4000 = .int 0x1800 ∧ modulated 0x3FFF 0x7FFF = .int 0x4000 ∧ modulated 0x1000 0x8000 = .int 0 ∧
    modulated 0x1000 0xFFFF = .int 0x0FFF ∧ modulated 0x2001 0x7FFF = .int 0x4000 := by decide +kernel

/-- P8, P9 and P10: only bits 13:0 count, and `PMON` bit 0 has no effect. -/
theorem test_pitch_raw :
    (after (exec (.intEffectiveStep 0) (voice0 { Voice.reset with pitch := 0xFFFF }))).result = .int 0x3FFF ∧
    (after (exec (.intEffectiveStep 0) (voice0 { Voice.reset with pitch := 0x4000 }))).result = .int 0 ∧
    (after (exec (.intEffectiveStep 0)
      { voice0 { Voice.reset with pitch := 0x1000 } with g := { Global.reset with pmon := 1 } })).result = .int 0x1000 := by
  decide +kernel

/-- The block boundary: the fraction and the overshoot stay, the cursor wraps at the top. -/
theorem test_pitch_boundary :
    let t := after (exec (.intPitchAdvance 0 0x4000)
      (voice0 { Voice.reset with pcount := 0x1BFFF, cur := 0x7FFF0, isLoaded := true }))
    (t.voice 0).pcount = 0x03FFF ∧ (t.voice 0).cur = 0 ∧ (t.voice 0).isLoaded = false ∧ t.g.endx = 0 := by decide +kernel

/-- Loop end with repeat, and without. -/
theorem test_pitch_loop_end :
    let v : Voice := { Voice.reset with pcount := 0x1B800, phase := .sustain, envLevel := 5, blkFlags := 3, repeatAddr := 0x0402 }
    let t := after (exec (.intPitchAdvance 0 0x1000) (voice0 v))
    let u := after (exec (.intPitchAdvance 0 0x1000) (voice0 { v with blkFlags := 1 }))
    t.g.endx = 1 ∧ (t.voice 0).cur = 0x02010 ∧ (t.voice 0).phase = .sustain ∧
      u.g.endx = 1 ∧ (u.voice 0).phase = .off ∧ (u.voice 0).envLevel = 0 := by decide +kernel

/-! ### T-ADSR: phase, `ADSR_LO`, `ADSR_HI`, level, wait; then level, wait, phase -/

/-- One call of the envelope generator on voice 0. -/
def ticked (phase : Phase) (lo hi level : Half) (wait : Nat) : Half × Nat × Phase :=
  let v := (after (exec (.intAdsrTick 0)
    (voice0 { Voice.reset with phase := phase, adsrLo := lo, adsrHi := hi, envLevel := level, adsrWait := wait }))).voice 0
  (v.envLevel, v.adsrWait, v.phase)

/-- A2, A6, A7, A8, A9, D1, D2, D3 and D6. -/
theorem test_adsr_attack_decay :
    ticked .attack 0x0000 0 0x7000 0 = (0x7FFF, 0, .decay) ∧ ticked .attack 0x7F00 0 0 0 = (4, 0xFFFFF, .attack) ∧
    ticked .attack 0x8000 0 0x6000 0 = (0x7FFF, 0, .decay) ∧ ticked .attack 0x8000 0 0x6001 0 = (0x6E01, 0, .attack) ∧
    ticked .attack 0x0000 0 0x5000 3 = (0x5000, 2, .attack) ∧ ticked .decay 0x0000 0 0x7FFF 0 = (0x3FFF, 0, .decay) ∧
    ticked .decay 0x000F 0 0x7FFF 0 = (0x3FFF, 0, .sustain) ∧ ticked .decay 0x00F7 0 0x7FFF 0 = (0x7FF7, 0xF, .decay) ∧
    ticked .decay 0x0003 0 0x2000 0 = (0x1000, 0, .sustain) := by decide +kernel

/-- S2, S4, S5, S8, R2, R5, R6, R7 and R8. -/
theorem test_adsr_sustain_release :
    ticked .sustain 0 0x4000 0x4000 0 = (0, 0, .sustain) ∧ ticked .sustain 0 0x8000 0x6001 0 = (0x6E01, 0, .sustain) ∧
    ticked .sustain 0 0x40C0 4 0 = (0, 0, .sustain) ∧ ticked .sustain 0 0xDF00 0x4000 0 = (0x3FFC, 0xFFFFF, .sustain) ∧
    ticked .release 0 0x0020 0x4000 0 = (0x2000, 0, .release) ∧ ticked .release 0 0x001F 0x4000 0 = (0x3FFC, 0xFFFFF, .release) ∧
    ticked .release 0 0 3 0 = (1, 0, .release) ∧ ticked .release 0 0 0 0 = (0, 0, .off) ∧
    ticked .release 0 0 0x7FFF 5 = (0x7FFF, 4, .release) := by decide +kernel

/-! ### T-ENV, the voice step, the key latch -/

/-- T-ENV: scaling and contribution. -/
theorem test_env :
    envelopeScale 0x4000 0x3800 = 0x1C00 ∧ envelopeScale (-32768) 0x7FFF = -32767 ∧ envelopeScale (-1) 1 = -1 ∧
    contribution { Voice.reset with volL := 0x3FFF, volR := 0x8000 } 0x1C00 = (0x0DFF, -0x1C00) := by decide +kernel

/-- Program A, step 3 with `K_LIN`: output 896, contribution (448, 224), level 0x7FFF and Decay afterwards. -/
theorem test_voice_step_program_a :
    let v : Voice :=
      { Voice.reset with
        volL := 0x4000
        volR := 0x2000
        pitch := 0x1000
        adsrLo := 0x000F
        envLevel := 0x7000
        phase := .attack
        cur := 0x1000
        pcount := 0x02000
        buf := (Vector.replicate 28 0).set 1 2048
        isLoaded := true }
    let r := voiceStep lin 0 (voice0 v)
    r.1 = (448, 224) ∧ (r.2.voice 0).lastSample = 896 ∧ (r.2.voice 0).envLevel = 0x7FFF ∧ (r.2.voice 0).phase = .decay ∧
      (r.2.voice 0).pcount = 0x03000 := by decide +kernel

/-- S1: a voice with both bits pending ends the latch in Release at level 0, its cursor at the start address. -/
theorem test_key_latch_both :
    let s := voice0 { Voice.reset with startAddr := 0x0200, envLevel := 0x1234 }
    let t := after (exec .intKeyLatch { s with g := { s.g with konPend := 1, koffPend := 1, endx := 0x800001 } })
    (t.voice 0).phase = .release ∧ (t.voice 0).envLevel = 0 ∧ (t.voice 0).cur = 0x1000 ∧ t.g.endx = 0x800000 ∧
      t.g.konPend = 0 ∧ t.g.koffPend = 0 := by decide +kernel

/-- R271 and R272: key on at 0x0200, key off of an Off voice. -/
theorem test_key_on_off :
    ((after (exec (.intKeyOn 0) (voice0 { Voice.reset with startAddr := 0x0200 }))).voice 0).cur = 0x1000 ∧
    ((after (exec (.intKeyOff 0) State.reset)).voice 0).phase = .off := by decide +kernel

/-! ### T-MIX, T-TICK, the mix step -/

/-- One channel of the final mix, unmuted. -/
theorem test_final_mix :
    finalChannel 0x4000 0x4000 0x9000 = 16383 ∧ finalChannel 0x4000 0x8000 (-0x8000) = 32767 ∧
    finalChannel 0x4000 0x7FFF (-0x9000) = -32767 ∧ finalChannel 0x4000 0xFFFF 1 = -1 ∧
    finalChannel 0x4000 0x8000 0x12345 = -32767 ∧ finalChannel 0x8000 0x7FFF 0x7FFF = 0 := by decide +kernel

/-- R355: one mix step with CD input, its output bytes, capture cells and counters. -/
theorem test_mix_step_cd :
    let s := { ctl 0xC001 with
      g := { (ctl 0xC001).g with cdVolL := 0x7FFF, cdVolR := 0x4000, mainVolL := 0x4000, mainVolR := 0x7FFF }
      cdq := [(0x4000, 0xC000)] }
    let t := after (exec .intMixStep s)
    t.out = [0xFF, 0x1F, 0x00, 0xE0] ∧ t.ram = [(1, 0x40), (0x401, 0xC0)] ∧ t.g.capOffset = 2 ∧ t.g.revCur = 2 ∧
      t.g.revPhase = true ∧ t.cdq = [] := by decide +kernel

/-- K1: a disabled block only counts. -/
theorem test_tick_disabled :
    (after (exec (.tick 0x1000) State.reset)).g.cycleCount = 0x100 ∧ (after (exec (.tick 0x1000) State.reset)).out = [] := by
  decide +kernel

/-- K2: a muted mix step appends four zero bytes. -/
theorem test_tick_one_step :
    let s := { ctl 0x8000 with g := { (ctl 0x8000).g with cycleCount := 0x100 } }
    (after (exec (.tick 0x200) s)).out = [0, 0, 0, 0] ∧ (after (exec (.tick 0x200) s)).g.cycleCount = 0 := by decide +kernel

/-- R352: the 2048th byte flushes. -/
theorem test_output_flush :
    let s := { State.reset with out := List.replicate 2044 0 }
    let t := after (exec (.intOutputAppend 0x0201 0x0403) s)
    t.out = [] ∧ t.trace = [.sinkAppend (List.replicate 2044 0 ++ [1, 2, 3, 4])] := by decide +kernel

/-- R346, R347: the capture offset wraps at 0x400; the cells of voices 1 and 3. -/
theorem test_capture_wrap :
    let s := State.reset.setVoice 3 { Voice.reset with lastSample := 0xBEEF }
    let t := after (exec (.intCaptureWrite 0x1234 0) { s with g := { s.g with capOffset := 0x3FE } })
    t.ram = [(0x3FE, 0x34), (0x3FF, 0x12), (0xFFE, 0xEF), (0xFFF, 0xBE)] ∧ t.g.capOffset = 0 := by decide +kernel

/-- R353. -/
theorem test_cd_push : (after (exec (.cdPush 1 0x8000) { State.reset with cdq := [(5, 6)] })).cdq = [(5, 6), (1, 0x8000)] := by
  decide +kernel

/-! ### T-REV -/

/-- T-REV2's setup at the cells one invocation touches: every stage in its clamp. -/
def revClamp : State :=
  let c := ctl 0xC080
  withBytes 0x7F800 [0x00, 0x80] <| withBytes 0x7FFFE [0x00, 0x80]
    { c with
      g := { c.g with mBASE := 0xFF00, revCur := 0x7F800 }
      rv := { ReverbRegs.reset with
        vLIN := 0x8000
        vRIN := 0x8000
        vIIR := 0x8000
        vWALL := 0x8000
        vCOMB1 := 0x8000
        vCOMB2 := 0x8000
        vCOMB3 := 0x8000
        vCOMB4 := 0x8000
        vAPF1 := 0x8000
        vAPF2 := 0x8000
        vLOUT := 0x8000
        vROUT := 0x8000 } }

theorem test_reverb_clamps :
    let t := after (exec (.intReverb 0x8000 0x8000) revClamp)
    t.result = .pair (-32767) (-32767) ∧ t.ram = [(0x7F801, 0x80), (0x7FFFF, 0x80)] ∧ t.g.revCur = 0x7F802 := by decide +kernel

/-- R381's examples, and R392's wrap to the base. -/
theorem test_reverb_addresses :
    let s := { State.reset with g := { Global.reset with mBASE := 0xFF00, revCur := 0x7FFFE } }
    revAddr s 0x10 = 0x7F80E ∧ revAddr { s with g := { s.g with revCur := 0x7F800 } } (-2) = 0x7FFFE ∧
      (cursorAdvance s).g.revCur = 0x7F800 := by decide +kernel

/-- T-REV1's registers and cursor, with an IRQ address and a control register. -/
def revAccesses (irq spucnt : Half) : State :=
  let c := ctl spucnt
  { c with
    g := { c.g with mBASE := 0xFF00, revCur := 0x7FFF0, irqAddr := irq }
    rv := { ReverbRegs.reset with
      dAPF1 := 0x0004
      dAPF2 := 0x0002
      mLSAME := 0x0010
      mRSAME := 0x0012
      dLSAME := 0x0020
      dRSAME := 0x0022
      mLDIFF := 0x0030
      mRDIFF := 0x0032
      dLDIFF := 0x0040
      dRDIFF := 0x0042
      mLCOMB1 := 0x0050
      mLCOMB2 := 0x0052
      mLCOMB3 := 0x0054
      mLCOMB4 := 0x0056
      mRCOMB1 := 0x0060
      mRCOMB2 := 0x0062
      mRCOMB3 := 0x0064
      mRCOMB4 := 0x0066
      mLAPF1 := 0x0070
      mRAPF1 := 0x0072
      mLAPF2 := 0x0080
      mRAPF2 := 0x0082 } }

/-- T-REV1's list of accesses, in order. -/
theorem test_reverb_access_list :
    (reverbOffsets (revAccesses 0 0xC080)).map (revAddr (revAccesses 0 0xC080)) =
      [0x7F86E, 0x7F8F0, 0x7F870, 0x7F96E, 0x7FA00, 0x7F970, 0x7FA70, 0x7FA80, 0x7FA90, 0x7FAA0, 0x7FB50, 0x7FB70, 0x7FBE0,
        0x7FBF0, 0x7F87E, 0x7F900, 0x7F880, 0x7F97E, 0x7F9F0, 0x7F980, 0x7FAF0, 0x7FB00, 0x7FB10, 0x7FB20, 0x7FB60, 0x7FB80,
        0x7FBF0, 0x7FC00] ∧
    (reverbOffsets (revAccesses 0 0xC000)).length = 20 := by decide +kernel

/-- The interrupt variants of T-REV1; R478: the reset register set reads 0x7FFFE first. -/
theorem test_reverb_interrupts :
    (after (exec (.intReverb 0 0) (revAccesses 0xFF0E 0xC0C0))).trace = [.irq9 (.cell 0x7F86E)] ∧
    (after (exec (.intReverb 0 0) (revAccesses 0xFF10 0xC0C0))).trace = [.irq9 (.cell 0x7F87E)] ∧
    (after (exec (.intReverb 0 0) (ctl 0x8040))).trace = [.irq9 (.cell 0x7FFFE)] := by decide +kernel

/-! ### T-IRQ -/

/-- Which accesses raise the interrupt, with the IRQ address at byte 0x01000. -/
def raises (i : Instr) (cursor : RamAddr) : Bool :=
  (after (exec i { ctl 0x0060 with g := { (ctl 0x0060).g with irqAddr := 0x0200, xferCur := cursor } })).g.irqFlag

theorem test_irq_port_and_dma :
    raises (.wr16XferPort 0) 0x0FFC = false ∧ raises (.wr16XferPort 0) 0x0FFE = true ∧ raises (.wr16XferPort 0) 0x1000 = true ∧
    raises (.wr16XferPort 0) 0x1002 = false ∧ raises .dmaRd 0x0FFC = false ∧ raises .dmaRd 0x0FFE = true ∧
    raises (.dmaWr 0) 0x1000 = true ∧ raises (.dmaWr 0) 0x1002 = false := by decide +kernel

/-- T-ADPCM's table: the block at 0x7FFF8 wraps onto address 0. -/
theorem test_irq_block_wraps :
    let s := (ctl 0x0040).setVoice 2 { Voice.reset with cur := 0x7FFF8 }
    (after (exec (.intDecodeBlock 2) s)).trace = [.irq9 (.voiceFetch 2)] := by decide +kernel

/-- T-FAULT: a faulted block refuses, `RESET` restores. -/
theorem test_fault_refuses :
    let s := { ctl 0x8000 with fault := some (.invalidState .dmaRead) }
    after (exec (.tick 0x300) s) = { s with result := .refused } ∧ after (exec .reset s) = State.reset := by decide +kernel

/-! ### Witnesses: the hypotheses of the statements can be met -/

theorem test_witness_DecodeOfEncode :
    Instr.wf (.wr16UnrecE00 0xE7E 0xFFFF) = true ∧ Instr.wf (.rd16UnrecE00 0xE00) = true ∧ Instr.wf (.rd16Misaligned 0xFFF) = true ∧
    Instr.wf (.wr16Misaligned 0x001 0) = true ∧ Instr.wf (.intPitchAdvance 23 0x4000) = true ∧ Instr.wf .reset = true := by decide

theorem test_witness_EncodeOfDecode :
    decode { selector := 0xE007, operand := 0x4000 * 32 + 23 } = .instr (.intPitchAdvance 23 0x4000) ∧
    decode { selector := 0x1FFF, operand := 0xFFFF } = .instr (.wr16Misaligned 0xFFF 0xFFFF) := by decide +kernel

theorem test_witness_VoiceOffsetsByFormula :
    (0xC00 ≤ (0xC00 : Offset).toNat ∧ (0xC00 : Offset).toNat ≤ 0xD7F ∧ (0xC00 : Offset).toNat % 2 = 0) ∧
    (0xC00 ≤ (0xD7E : Offset).toNat ∧ (0xD7E : Offset).toNat ≤ 0xD7F ∧ (0xD7E : Offset).toNat % 2 = 0) := by decide

theorem test_witness_UnrecognisedOffsets :
    (0xC00 ≤ (0xC00 : Offset).toNat ∧ (0xC00 : Offset).toNat ≤ 0xE7F) ∧ (0xC00 ≤ (0xE7F : Offset).toNat ∧ (0xE7F : Offset).toNat ≤ 0xE7F) ∧
    readAt State.reset 0xDA8 = none ∧ regAt 0xDA8 = some .xferPort ∧ regAt 0xDFE = some .vRIN ∧ regAt 0xE00 = none := by
  decide +kernel

theorem test_witness_StepRunsTheDecodedTransaction :
    (State.withFetchWord State.reset 32 0x00011D88).pending = [{ selector := 0x1D88, operand := 1 }] ∧
    decode { selector := 0x1D88, operand := 1 } = .instr (.wr16KonLo 1) ∧
    decodeTableWord 32 0x00011D88 = some (.wr16KonLo 1) ∧ State.reset.pending = [] ∧
    ({ State.reset with pending := [{ selector := 0x6000, operand := 0 }] } : State).pending =
      { selector := 0x6000, operand := 0 } :: [] ∧
    decode { selector := 0x6000, operand := 0 } = .rejected (.unusedKind 6) := by decide +kernel

/-- A faulted state. -/
def faultedState : State := { State.reset with fault := some (.invalidState .dmaRead) }

theorem test_witness_FaultedBlockRefuses : ¬ NoError faultedState ∧ (Instr.tick 0x300) ≠ .reset := by
  refine ⟨by decide, fun h => ?_⟩
  cases h

/-- `NoError` alone: the register statements, `UnrecognisedAccesses`, `CdPushAppends`, `KeyOnAndKeyOff`,
`KeyLatchAppliesBothMasks`, `FinalMixClampsAndMutes` and `OutputAppendAndFlush`. -/
theorem test_witness_NoError : NoError State.reset ∧ NoError (ctl 0xFFFF) := ⟨rfl, rfl⟩

theorem test_witness_AdsrHiRegister :
    NoError State.reset ∧ (0xDFFF : Half).getLsbD 13 = false ∧ (0x2000 : Half).getLsbD 13 = true := by decide

theorem test_witness_KeyOnAndKeyOff :
    NoError State.reset ∧ (State.reset.voice 23).phase = .off ∧ ((voice0 { Voice.reset with phase := .attack }).voice 0).phase ≠ .off := by
  decide +kernel

/-- Mode 2, the cursor at the last cell. -/
def transferState : State :=
  { ctl 0x0060 with g := { (ctl 0x0060).g with xferCur := 0x7FFFE, irqAddr := 0x0000 } }

theorem test_witness_transfers :
    NoError transferState ∧ Memory.wf transferState.ram = true ∧ xferMode transferState.g.spucnt = 2 := by decide

theorem test_witness_PortsNeedTransferMode2 :
    NoError State.reset ∧ xferMode State.reset.g.spucnt ≠ 2 ∧ xferMode (ctl 0x0010).g.spucnt ≠ 2 ∧
    xferMode (ctl 0xFFFF).g.spucnt ≠ 2 := by decide

theorem test_witness_TransferRoundTrip :
    ∃ s1 s2 s3 s4 u2 u3 u4,
      exec (.wr16XferAddr 0xFFFF) transferState = .next s1 ∧
      (exec (.dmaWr 0xAABBCCDD) s1 = .next s2 ∧ exec (.wr16XferAddr 0xFFFF) s2 = .next s3 ∧ exec .dmaRd s3 = .next s4) ∧
      (exec (.wr16XferPort 0xBEEF) s1 = .next u2 ∧ exec (.wr16XferAddr 0xFFFF) u2 = .next u3 ∧ exec .dmaRd u3 = .next u4) :=
  ⟨_, _, _, _, _, _, _, rfl, ⟨rfl, rfl, rfl⟩, rfl, rfl, rfl⟩

theorem test_witness_SizedReads :
    NoError State.reset ∧ readAt State.reset (0xDAF &&& 0xFFE) = some 0 ∧ readAt State.reset (0xDA9 &&& 0xFFE) = none ∧
    (0xDFC : Offset).toNat % 4 = 0 ∧ readAt State.reset 0xDFC = some 0 ∧ readAt State.reset (0xDFC + 2) = some 0 ∧
    (0xDFE : Offset).toNat % 4 ≠ 0 ∧ readAt State.reset 0xDA8 = none ∧ readAt State.reset (0xDB8 + 2) = none ∧
    regAt 0xDAE = some .spustat := by decide +kernel

theorem test_witness_SizedWrite :
    NoError State.reset ∧ (0xDA8 : Offset).toNat % 4 = 0 ∧ regAt 0xDA8 = some .xferPort ∧ regAt (0xDA8 + 2) = some .spucnt ∧
    (0xDFE : Offset).toNat % 4 ≠ 0 ∧ regAt 0xDAC = none ∧ regAt (0xDB8 + 2) = none := by decide +kernel

/-- An enabled block, unmuted, the counter one below the interval. -/
def enabledState : State := { ctl 0xC000 with g := { (ctl 0xC000).g with cycleCount := 0x2FF } }

theorem test_witness_TickByCrossings :
    NoError enabledState ∧ enabledState.g.cycleCount + 0 < 0x300 ∧ State.reset.g.spucnt.getLsbD 15 = false ∧
    enabledState.g.spucnt.getLsbD 15 = true ∧ 0x300 ≤ enabledState.g.cycleCount + 1 := by decide

theorem test_witness_TickCountsMixSteps :
    NoError enabledState ∧ enabledState.g.spucnt.getLsbD 15 = true ∧
    ∃ t, exec (.tick 0x301) enabledState = .next t ∧ NoError t := by
  refine ⟨rfl, by decide, _, rfl, ?_⟩
  decide +kernel

theorem test_witness_TickSplitsFreely : ∃ s1, exec (.tick 1) enabledState = .next s1 ∧ NoError s1 := by
  refine ⟨_, rfl, ?_⟩
  decide +kernel

theorem test_witness_DecodeBlockSamples :
    let s := withBytes 0 [0xBC, 0xFF] State.reset
    NoError s ∧ (memRead1 s (s.voice 0).cur.toNat).getLsbD 6 = false ∧ (memRead1 s (s.voice 0).cur.toNat).toNat % 0x10 ≤ 12 := by
  decide +kernel

theorem test_witness_DecodeBlockReservedHeader :
    let s := withBytes 0 [0x40] State.reset
    let t := withBytes 0 [0x0D] State.reset
    (NoError s ∧ (memRead1 s (s.voice 0).cur.toNat).getLsbD 6 = true) ∧
    (NoError t ∧ (memRead1 t (t.voice 0).cur.toNat).getLsbD 6 = false ∧ 12 < (memRead1 t (t.voice 0).cur.toNat).toNat % 0x10) := by
  decide +kernel

theorem test_witness_InterpolateFourPoints :
    NoError (voice0 { Voice.reset with pcount := 0x1BFFF }) ∧
    ((voice0 { Voice.reset with pcount := 0x1BFFF }).voice 0).pcount.toNat < 0x1C000 := by decide +kernel

theorem test_witness_EffectiveStepModulation :
    let s := { State.reset with g := { Global.reset with pmon := 0x800001 } }
    NoError s ∧ ((0 : VoiceId).val = 0 ∧ s.g.pmon.getLsbD (0 : VoiceId).val = true) ∧ s.g.pmon.getLsbD (22 : VoiceId).val = false ∧
    ((22 : VoiceId).val + 1 = (23 : VoiceId).val ∧ s.g.pmon.getLsbD (23 : VoiceId).val = true) := by decide +kernel

theorem test_witness_PitchAdvanceAndLoop :
    let s := voice0 { Voice.reset with pcount := 0x1BFFF, blkFlags := 3 }
    NoError s ∧ (s.voice 0).pcount.toNat < 0x1C000 ∧ (0x4000 : BitVec 15).toNat ≤ 0x4000 ∧
    ¬ (s.voice 0).pcount.toNat + (0x4000 : BitVec 15).toNat < 0x1C000 ∧
    (s.voice 0).pcount.toNat + (0 : BitVec 15).toNat < 0x1C000 := by decide +kernel

theorem test_witness_AdsrTickByPhase :
    let s (phase : Phase) (wait : Nat) := voice0 { Voice.reset with phase := phase, adsrWait := wait }
    NoError (s .off 0) ∧ ((s .off 0).voice 0).phase = .off ∧
    (((s .release 0xFFFFF).voice 0).phase ≠ .off ∧ 0 < ((s .release 0xFFFFF).voice 0).adsrWait) ∧
    (((s .attack 0).voice 0).phase = .attack ∧ ((s .attack 0).voice 0).adsrWait = 0) ∧
    (((s .decay 0).voice 0).phase = .decay ∧ ((s .decay 0).voice 0).adsrWait = 0) ∧
    (((s .sustain 0).voice 0).phase = .sustain ∧ ((s .sustain 0).voice 0).adsrWait = 0) ∧
    (((s .release 0).voice 0).phase = .release ∧ ((s .release 0).voice 0).adsrWait = 0) := by decide +kernel

theorem test_witness_ReleaseReachesOff :
    let s := voice0 { Voice.reset with phase := .release, envLevel := 0x7FFF, adsrHi := 0x1F, adsrWait := 0xFFFFF }
    NoError s ∧ VoiceOk (s.voice 0) ∧ (s.voice 0).phase = .release :=
  ⟨rfl, ⟨by decide +kernel, by decide +kernel, by decide +kernel, by decide +kernel⟩, by decide +kernel⟩

theorem test_witness_VoiceStepWhenOff : NoError State.reset ∧ (State.reset.voice 23).phase = .off := by decide +kernel

theorem test_witness_VoiceStepParts :
    let s := withBytes 0 [0x0C] (voice0 { Voice.reset with phase := .attack })
    NoError s ∧ (s.voice 0).phase ≠ .off ∧ (s.voice 0).isLoaded = false ∧ LegalHeader (memRead1 s (s.voice 0).cur.toNat) := by
  refine ⟨rfl, by decide +kernel, by decide +kernel, by decide +kernel, by decide +kernel⟩

theorem test_witness_PhaseTransitions :
    ∃ t, exec (.intKeyOn 23) State.reset = .next t ∧ (t.voice 23).phase ≠ (State.reset.voice 23).phase := by
  refine ⟨_, rfl, ?_⟩
  decide +kernel

theorem test_witness_CaptureWriteCells :
    let s := { State.reset with g := { Global.reset with capOffset := 0x3FE } }
    NoError s ∧ Memory.wf s.ram = true := by decide

/-- Voice 23 keyed on, its block header at the largest shift. -/
def mixReady : State :=
  withBytes 0 [0x3C, 0x07] { ctl 0xC0C5 with g := { (ctl 0xC0C5).g with konPend := 0x800000 }, cdq := [(1, 2)] }

/-- Voices 2 and 23 keyed on; the block of voice 23 has header bit 6 set. -/
def mixFails : State :=
  withBytes 0x1000 [0x40]
    ({ ctl 0xC0C5 with g := { (ctl 0xC0C5).g with konPend := 0x800004 } }.setVoice 23 { Voice.reset with startAddr := 0x0200 })

theorem test_witness_MixStepCompletesExactly : NoError mixReady ∧ NoError mixFails ∧ ¬ HeadersReady mixFails := by
  refine ⟨rfl, rfl, fun h => ?_⟩
  have hdr := h 23 (by show _ ∧ _; decide +kernel)
  exact absurd hdr.1 (by decide +kernel)

/-- R430's example of a decode fault inside a mix step: voice 2 has been decoded, the masks are latched, no sample is appended. -/
theorem test_mix_step_fault :
    let t := after (exec .intMixStep mixFails)
    t.fault = some (.adpcmHeaderBit6 23 0x1000) ∧ (t.voice 2).isLoaded = true ∧ (t.voice 23).phase = .attack ∧
      t.g.konPend = 0 ∧ t.out = [] ∧ t.g.capOffset = 0 ∧ t.g.revPhase = false := by decide +kernel

theorem test_witness_MixStepParts : NoError mixReady ∧ HeadersReady mixReady ∧ NeedsDecode ((keyLatch mixReady).voice 23) := by
  refine ⟨rfl, ?_, ?_⟩
  · show ∀ n : VoiceId, (_ ∧ _) → (_ ∧ _)
    decide +kernel
  · show _ ∧ _
    decide +kernel

theorem test_witness_StoredOnlyFieldsHaveNoEffect :
    ((0xFFFF : Half) ^^^ mixReady.g.spucnt) &&& 0xC0C5 = 0 ∧ ∃ t, exec .intMixStep mixReady = .next t :=
  ⟨by decide, _, rfl⟩

theorem test_witness_MuteActsOnTheOutputOnly :
    ∃ t u, exec .intMixStep mixReady = .next t ∧
      exec .intMixStep { mixReady with g := { mixReady.g with spucnt := mixReady.g.spucnt ^^^ 0x4000 } } = .next u :=
  ⟨_, _, rfl, rfl⟩

theorem test_witness_ReverbLineByLine_ReverbFrame :
    (NoError revClamp ∧ Memory.wf revClamp.ram = true ∧ revWriteEn revClamp.g.spucnt = true) ∧
    (NoError (revAccesses 0xFF0E 0xC040) ∧ Memory.wf (revAccesses 0xFF0E 0xC040).ram = true ∧
      revWriteEn (revAccesses 0xFF0E 0xC040).g.spucnt = false) := by decide +kernel

/-- Every reverb register 0, the cursor at the last cell of the work area. -/
def revZero (spucnt : Half) : State :=
  { ctl spucnt with g := { (ctl spucnt).g with mBASE := 0xFFFF, revCur := 0x7FFFE } }

theorem test_witness_ReverbWithZeroRegisters :
    (NoError (revZero 0) ∧ Memory.wf (revZero 0).ram = true ∧ GlobalOk (revZero 0).g ∧ (revZero 0).rv = ReverbRegs.reset ∧
      revWriteEn (revZero 0).g.spucnt = false) ∧
    (NoError (revZero 0x80) ∧ GlobalOk (revZero 0x80).g ∧ revWriteEn (revZero 0x80).g.spucnt = true ∧
      memRead2 (revZero 0x80) (revAddr (revZero 0x80) (-2)).toNat = 0) := by
  refine ⟨⟨rfl, rfl, ⟨?_, ?_, ?_, ?_, ?_, ?_⟩, rfl, rfl⟩, rfl, ⟨?_, ?_, ?_, ?_, ?_, ?_⟩, rfl, ?_⟩ <;> decide +kernel

/-- R397, R477 (b): with every register 0 and the cell before the cursor 0, two invocations in a row erase the cells at the moving
cursor. -/
theorem test_reverb_zero_registers_erase :
    let s := withBytes 0 [0x34, 0x12, 0x78, 0x56, 0xBC] (ctl 0x0080)
    let t := after (exec (.intReverb 0x7FFF 0x8000) s)
    t.result = .pair 0 0 ∧ t.ram = [(2, 0x78), (3, 0x56), (4, 0xBC)] ∧ (after (exec (.intReverb 0 0) t)).ram = [(4, 0xBC)] := by
  decide +kernel

/-- A voice of the reset state is the reset voice. -/
theorem voice_reset (n : VoiceId) : State.reset.voice n = Voice.reset := by simp [State.voice, State.reset]

/-- The reset state with an unfinished output buffer and a `TICK` presented. -/
def presentedTick : State :=
  { State.reset with out := List.replicate 2044 0, pending := [{ selector := 0xA000, operand := 0x300 }] }

theorem test_witness_EveryStepKeepsTheInvariants : Inv presentedTick ∧ ∃ t, step presentedTick = .next t := by
  refine ⟨⟨fun n => ?_, ⟨?_, ?_, ?_, ?_, ?_, ?_⟩, ⟨?_, ?_⟩, rfl⟩, _, rfl⟩
  · rw [show presentedTick.voice n = State.reset.voice n from rfl, voice_reset]
    exact ⟨by decide, by decide, by decide, by decide⟩
  all_goals decide +kernel

theorem test_witness_EveryStepKeepsTheCounter :
    Counted { presentedTick with g := { Global.reset with cycleCount := 0x2FF } } ∧
    ∃ t, step { presentedTick with g := { Global.reset with cycleCount := 0x2FF } } = .next t :=
  ⟨fun _ => by decide, _, rfl⟩

theorem test_witness_DisabledBlockStaysSilent :
    Instr.isInternal (.wr16KonLo 0xFFFF) = false ∧ DisabledOff State.reset ∧ masterEnable State.reset.g.spucnt = false ∧
    ∃ t, exec (.wr16KonLo 0xFFFF) State.reset = .next t :=
  ⟨rfl, fun _ n => by rw [voice_reset]; rfl, rfl, _, rfl⟩

theorem test_witness_InterruptDiscipline :
    (Instr.wr16XferPort 1 ≠ .reset) ∧
    ∃ t, exec (.wr16XferPort 1) transferState = .next t ∧ transferState.g.irqFlag = false ∧ t.g.irqFlag = true := by
  refine ⟨fun h => ?_, _, rfl, rfl, ?_⟩
  · cases h
  · decide +kernel

theorem test_witness_SoundRamWriters :
    ∃ t, exec (.wr16XferPort 1) transferState = .next t ∧ memRead1 t 0x7FFFE ≠ memRead1 transferState 0x7FFFE := by
  refine ⟨_, rfl, ?_⟩
  decide +kernel

end Sys2Proof.Tests
end

section
/-! PROOFS. The step (spec/20_memory.md R92): what it does with the transaction presented next, one equation per case. -/

namespace Sys2Proof.Machine

open Sys2Proof

theorem step_of_idle {s : State} (h : s.pending = []) : step s = .next s := by
  simp [step, h]

theorem step_of_decoded {s : State} {t : Transaction} {rest : List Transaction} {i : Instr} (hp : s.pending = t :: rest)
    (hd : decode t = .instr i) : step s = exec i { s with pending := rest } := by
  simp [step, hp, hd]

theorem step_of_rejected {s : State} {t : Transaction} {rest : List Transaction} {e : DecodeError}
    (hp : s.pending = t :: rest) (hd : decode t = .rejected e) : step s = .refused (.undecodable e) := by
  simp [step, hp, hd]

/-- A table word stands for `i` exactly when the transaction it spells decodes to `i`. -/
theorem decodeTableWord_eq_some_iff {nbits w : Nat} {i : Instr} :
    decodeTableWord nbits w = some i ↔ decode (Transaction.ofTableWord nbits w) = .instr i := by
  unfold decodeTableWord
  cases decode (Transaction.ofTableWord nbits w) <;> simp

/-- A presented table word is taken off the list again by the step that performs it. -/
theorem step_withFetchWord {s : State} {nbits w : Nat} {i : Instr} (h : decodeTableWord nbits w = some i) :
    step (s.withFetchWord nbits w) = exec i s :=
  step_of_decoded (s := s.withFetchWord nbits w) rfl (decodeTableWord_eq_some_iff.mp h)

/-- Settles O6: one equation per case of the step. -/
theorem stepRunsTheDecodedTransaction : Obligations.StepRunsTheDecodedTransaction :=
  ⟨fun _ _ _ _ hp hd => step_of_decoded hp hd, fun _ _ _ _ h => step_withFetchWord h, fun _ h => step_of_idle h,
    fun _ _ _ _ hp hd => step_of_rejected hp hd⟩

end Sys2Proof.Machine
end

section
/-! PROOFS. What an outside agent can present (spec/00_scope.md R12): `exec` of everything but `RESET` and the micro-operations
runs one of ten operations inside the frame of R430, so that a rule about all of them has ten cases. -/

namespace Sys2Proof.Machine

open Sys2Proof

/-- The operations that the transactions of an outside agent run, `RESET` apart: half-word reads and writes of registers, the
unimplemented-register condition, the accesses of other sizes, the DMA bridge, the tick and the CD queue. -/
inductive OutsideOp : (State → State) → Prop where
  | read (r : Reg) : OutsideOp (readHalf Config.params r)
  | write (r : Reg) (v : Half) : OutsideOp (fun s => writeReg v s r)
  | unimplemented (kind : AccessKind) (off : Offset) (zero : Result) :
      OutsideOp (unimplemented Config.params kind off zero)
  | readByte (off : Offset) : OutsideOp (readByteAt Config.params off)
  | readWord (off : Offset) : OutsideOp (readWordAt Config.params off)
  | writeWord (off : Offset) (w : Word) : OutsideOp (writeWordAt Config.params off w)
  | dmaRead : OutsideOp dmaRead
  | dmaWrite (w : Word) : OutsideOp (dmaWrite w)
  | tick (cycles : Nat) : OutsideOp (runTick Config.params cycles)
  | cdPush (l r : Half) : OutsideOp (cdPush l r)

/-- `exec i` runs one outside operation in the frame of every transaction but `RESET`. -/
def RunsOutsideOp (i : Instr) : Prop := ∃ f, OutsideOp f ∧ ∀ s, exec i s = .next (transact f s)

/-- Everything an outside agent presents is `RESET` or runs one of the outside operations. -/
theorem exec_outside {i : Instr} (hi : i.isInternal = false) : i = .reset ∨ RunsOutsideOp i := by
  cases i
  case reset => exact .inl rfl
  case rd16VolL | rd16VolR | rd16Pitch | rd16Start | rd16AdsrLo | rd16AdsrHi | rd16Env | rd16Repeat
      | rd16MvolL | rd16MvolR | rd16VLOUT | rd16VROUT | rd16KonLo | rd16KonHi | rd16KoffLo | rd16KoffHi
      | rd16PmonLo | rd16PmonHi | rd16NonLo | rd16NonHi | rd16EonLo | rd16EonHi | rd16EndxLo | rd16EndxHi
      | rd16Mbase | rd16IrqAddr | rd16XferAddr | rd16XferPort | rd16Spucnt | rd16Spustat | rd16CdvolL | rd16CdvolR
      | rd16ExtvolL | rd16ExtvolR
      | rd16DAPF1 | rd16DAPF2 | rd16VIIR | rd16VCOMB1 | rd16VCOMB2 | rd16VCOMB3 | rd16VCOMB4 | rd16VWALL
      | rd16VAPF1 | rd16VAPF2 | rd16MLSAME | rd16MRSAME | rd16MLCOMB1 | rd16MRCOMB1 | rd16MLCOMB2 | rd16MRCOMB2
      | rd16DLSAME | rd16DRSAME | rd16MLDIFF | rd16MRDIFF | rd16MLCOMB3 | rd16MRCOMB3 | rd16MLCOMB4 | rd16MRCOMB4
      | rd16DLDIFF | rd16DRDIFF | rd16MLAPF1 | rd16MRAPF1 | rd16MLAPF2 | rd16MRAPF2 | rd16VLIN | rd16VRIN =>
    exact .inr ⟨_, .read _, fun _ => rfl⟩
  case wr16VolL | wr16VolR | wr16Pitch | wr16Start | wr16AdsrLo | wr16AdsrHi | wr16Env | wr16Repeat
      | wr16MvolL | wr16MvolR | wr16VLOUT | wr16VROUT | wr16KonLo | wr16KonHi | wr16KoffLo | wr16KoffHi
      | wr16PmonLo | wr16PmonHi | wr16NonLo | wr16NonHi | wr16EonLo | wr16EonHi | wr16EndxLo | wr16EndxHi
      | wr16Mbase | wr16IrqAddr | wr16XferAddr | wr16XferPort | wr16Spucnt | wr16Spustat | wr16CdvolL | wr16CdvolR
      | wr16ExtvolL | wr16ExtvolR
      | wr16DAPF1 | wr16DAPF2 | wr16VIIR | wr16VCOMB1 | wr16VCOMB2 | wr16VCOMB3 | wr16VCOMB4 | wr16VWALL
      | wr16VAPF1 | wr16VAPF2 | wr16MLSAME | wr16MRSAME | wr16MLCOMB1 | wr16MRCOMB1 | wr16MLCOMB2 | wr16MRCOMB2
      | wr16DLSAME | wr16DRSAME | wr16MLDIFF | wr16MRDIFF | wr16MLCOMB3 | wr16MRCOMB3 | wr16MLCOMB4 | wr16MRCOMB4
      | wr16DLDIFF | wr16DRDIFF | wr16MLAPF1 | wr16MRAPF1 | wr16MLAPF2 | wr16MRAPF2 | wr16VLIN | wr16VRIN =>
    exact .inr ⟨_, .write _ _, fun _ => rfl⟩
  case rd16UnrecDA0 | rd16UnrecDAC | rd16UnrecDB8 | rd16UnrecDBA | rd16UnrecDBC | rd16UnrecDBE | rd16UnrecE00
      | rd16Misaligned | wr16UnrecDA0 | wr16UnrecDAC | wr16UnrecDB8 | wr16UnrecDBA | wr16UnrecDBC | wr16UnrecDBE
      | wr16UnrecE00 | wr16Misaligned | wr8 =>
    exact .inr ⟨_, .unimplemented _ _ _, fun _ => rfl⟩
  case rd8 off => exact .inr ⟨_, .readByte off, fun _ => rfl⟩
  case rd32 off => exact .inr ⟨_, .readWord off, fun _ => rfl⟩
  case wr32 off w => exact .inr ⟨_, .writeWord off w, fun _ => rfl⟩
  case dmaRd => exact .inr ⟨_, .dmaRead, fun _ => rfl⟩
  case dmaWr w => exact .inr ⟨_, .dmaWrite w, fun _ => rfl⟩
  case tick cycles => exact .inr ⟨_, .tick cycles, fun _ => rfl⟩
  case cdPush l r => exact .inr ⟨_, .cdPush l r, fun _ => rfl⟩
  all_goals cases hi

theorem exec_reset (s : State) : exec .reset s = .next (resetState s) := rfl

end Sys2Proof.Machine
end

section
/-! PROOFS. R57 I-h: with the master enable clear every voice is Off. Only the control register changes the master enable, and
its write silences the voices itself (R190); only a mix step starts a voice, and a tick runs none with the enable clear (R340). -/

namespace Sys2Proof.Machine

open Sys2Proof Sys2Proof.Safety

/-! ### Operations that leave the control register and the phases -/

theorem disabledOff_of_phases {s t : State} (h : DisabledOff s) (hg : t.g.spucnt = s.g.spucnt)
    (hv : ∀ n : VoiceId, (t.voice n).phase = (s.voice n).phase) : DisabledOff t := by
  intro he n
  rw [hv n]
  exact h (hg ▸ he) n

theorem disabledOff_of_voices {s t : State} (h : DisabledOff s) (hg : t.g.spucnt = s.g.spucnt) (hv : t.voices = s.voices) :
    DisabledOff t :=
  disabledOff_of_phases h hg fun n => by rw [voice_of_voices hv]

theorem disabledOff_of_enabled {s : State} (h : masterEnable s.g.spucnt = true) : DisabledOff s := by
  intro he
  rw [h] at he
  cases he

theorem TransferChange.disabledOff {s t : State} (hc : TransferChange s t) (h : DisabledOff s) : DisabledOff t :=
  disabledOff_of_voices h hc.spucnt hc.voices

theorem returning_disabledOff (r : Result) {s : State} (h : DisabledOff s) : DisabledOff (returning r s) :=
  disabledOff_of_voices h rfl rfl

theorem unimplemented_disabledOff (p : Params) (kind : AccessKind) (off : Offset) (zero : Result) {s : State}
    (h : DisabledOff s) : DisabledOff (unimplemented p kind off zero s) := by
  obtain ⟨_, _, _, heq, _⟩ := unimplemented_frame p kind off zero s
  rw [heq]
  exact disabledOff_of_voices h rfl rfl

/-- The frame of a transaction keeps what its operation keeps. -/
theorem transact_disabledOff {f : State → State} (hf : ∀ s, DisabledOff s → DisabledOff (f s)) {s : State}
    (h : DisabledOff s) : DisabledOff (transact f s) := by
  unfold transact
  split
  · exact returning_disabledOff _ h
  · exact hf _ (returning_disabledOff _ h)

/-! ### Reads -/

theorem readHalf_disabledOff (p : Params) (r : Reg) {s : State} (h : DisabledOff s) : DisabledOff (readHalf p r s) := by
  rcases readHalf_cases p r s with ⟨_, _, heq⟩ | ⟨_, heq⟩ <;> rw [heq]
  · exact disabledOff_of_voices h rfl rfl
  · exact unimplemented_disabledOff p _ _ _ h

theorem readByteAt_disabledOff (p : Params) (off : Offset) {s : State} (h : DisabledOff s) :
    DisabledOff (readByteAt p off s) := by
  unfold readByteAt
  split
  · exact returning_disabledOff _ h
  · exact unimplemented_disabledOff p _ _ _ h

theorem readWordAt_disabledOff (p : Params) (off : Offset) {s : State} (h : DisabledOff s) :
    DisabledOff (readWordAt p off s) := by
  unfold readWordAt
  split
  · split
    · exact returning_disabledOff _ h
    · exact unimplemented_disabledOff p _ _ _ h
  · exact unimplemented_disabledOff p _ _ _ h

/-! ### Writes -/

theorem setVoice_phase {s : State} {n : VoiceId} {v : Voice} (hv : v.phase = (s.voice n).phase) (m : VoiceId) :
    ((s.setVoice n v).voice m).phase = (s.voice m).phase := by
  rw [voice_setVoice]
  split
  next hm => rw [hv, hm]
  next => rfl

/-- No write of a voice register changes a phase (R160 to R167). -/
theorem writeVoiceReg_phase (n : VoiceId) (v : Half) (s : State) (r : VoiceReg) (m : VoiceId) :
    ((writeVoiceReg n v s r).voice m).phase = (s.voice m).phase := by
  cases r
  case adsrHi =>
    unfold writeVoiceReg
    simp only
    split
    · rfl
    · exact setVoice_phase (by rfl) m
  all_goals exact setVoice_phase (by rfl) m

/-- Of the registers, only the control register touches a phase. -/
theorem writeReg_phase {r : Reg} (hr : r ≠ .spucnt) (v : Half) (s : State) (m : VoiceId) :
    ((writeReg v s r).voice m).phase = (s.voice m).phase := by
  cases r
  case voice r n => exact writeVoiceReg_phase n v s r m
  case spucnt => exact absurd rfl hr
  case xferPort => exact congrArg Voice.phase (voice_of_voices (writePort_change v s).voices m)
  all_goals rfl

/-- A write of the control register that leaves bit 15 clear silences every voice itself, whatever the state was (R190). -/
theorem writeSpucnt_disabledOff (v : Half) (s : State) : DisabledOff (writeSpucnt v s) := by
  intro he n
  have hv : masterEnable v = false := by rwa [writeSpucnt_eq] at he
  rw [writeSpucnt_voice, hv]
  rfl

theorem writeReg_disabledOff (v : Half) (r : Reg) {s : State} (h : DisabledOff s) : DisabledOff (writeReg v s r) := by
  by_cases hr : r = .spucnt
  · subst hr
    exact writeSpucnt_disabledOff v s
  · exact disabledOff_of_phases h (writeReg_spucnt hr v s) (writeReg_phase hr v s)

theorem writeWordAt_disabledOff (p : Params) (off : Offset) (w : Word) {s : State} (h : DisabledOff s) :
    DisabledOff (writeWordAt p off w s) := by
  unfold writeWordAt
  split
  · split
    next r0 r1 _ _ =>
      have hlo := writeReg_disabledOff (wordLo w) r0 h
      simp only
      split
      · exact hlo
      · exact writeReg_disabledOff (wordHi w) r1 hlo
    next => exact unimplemented_disabledOff p _ _ _ h
  · exact unimplemented_disabledOff p _ _ _ h

/-! ### The tick, reset -/

/-- With the enable clear a crossing runs no mix step and leaves the voices; with it set, the crossing leaves it set. -/
theorem crossing_disabledOff (p : Params) {s : State} (h : DisabledOff s) : DisabledOff (crossing p s) := by
  cases he : masterEnable s.g.spucnt
  · simp only [crossing, he, Bool.false_eq_true, if_false]
    exact disabledOff_of_voices h rfl rfl
  · exact disabledOff_of_enabled (by rw [(crossing_tick p s).spucnt, he])

theorem crossings_disabledOff (p : Params) (fuel : Nat) {s : State} (h : DisabledOff s) :
    DisabledOff (crossings p fuel s) := by
  induction fuel generalizing s with
  | zero => exact h
  | succ k ih =>
    have hc := crossing_disabledOff p h
    unfold crossings
    split
    · exact h
    · simp only
      split
      · exact hc
      · exact ih hc

theorem runTick_disabledOff (p : Params) (cycles : Nat) {s : State} (h : DisabledOff s) :
    DisabledOff (runTick p cycles s) := by
  unfold runTick
  exact crossings_disabledOff p _ (disabledOff_of_voices h rfl rfl)

theorem resetState_disabledOff (s : State) : DisabledOff (resetState s) := by
  intro _ n
  simp [resetState, State.voice, State.reset, Voice.reset]

/-! ### Every transaction of an outside agent -/

theorem OutsideOp.disabledOff {f : State → State} (hf : OutsideOp f) {s : State} (h : DisabledOff s) :
    DisabledOff (f s) := by
  cases hf with
  | read r => exact readHalf_disabledOff _ r h
  | write r v => exact writeReg_disabledOff v r h
  | unimplemented kind off zero => exact unimplemented_disabledOff _ kind off zero h
  | readByte off => exact readByteAt_disabledOff _ off h
  | readWord off => exact readWordAt_disabledOff _ off h
  | writeWord off w => exact writeWordAt_disabledOff _ off w h
  | dmaRead => exact (dmaRead_change s).disabledOff h
  | dmaWrite w => exact (dmaWrite_change w s).disabledOff h
  | tick cycles => exact runTick_disabledOff _ cycles h
  | cdPush l r => exact disabledOff_of_voices h rfl rfl

/-- Settles O58: `RESET` leaves every voice Off, and each operation an outside agent can run keeps the invariant. -/
theorem disabledBlockStaysSilent : Obligations.DisabledBlockStaysSilent := by
  unfold Obligations.DisabledBlockStaysSilent
  intro i s t hi hs ht
  rcases exec_outside hi with rfl | ⟨f, hf, hexec⟩
  · rw [exec_reset] at ht
    cases ht
    exact resetState_disabledOff s
  · rw [hexec s] at ht
    cases ht
    exact transact_disabledOff (fun _ => hf.disabledOff) hs

end Sys2Proof.Machine
end

section
/-! PROOFS. What the decoder reads is well formed (spec/30_encoding.md R110 to R126): a row of single offsets is read at those
offsets alone, and a presented `PitchAdvance` has a step that R285 can produce. -/

namespace Sys2Proof

/-- Whatever instruction `d` answers is a transaction of the opcode table. -/
def Decoded.WellFormed (d : Decoded) : Prop := ∀ i : Instr, d = .instr i → i.wf = true

theorem Decoded.wellFormed_instr {i : Instr} (h : i.wf = true) : (Decoded.instr i).WellFormed := by
  rintro _ ⟨⟩
  exact h

theorem Decoded.wellFormed_rejected (e : DecodeError) : (Decoded.rejected e).WellFormed := by
  rintro _ ⟨⟩

/-! ### The operand forms (R111) -/

theorem withNone_wellFormed (operand : Nat) {i : Instr} (h : i.wf = true) : (withNone operand i).WellFormed := by
  unfold withNone
  split
  · exact Decoded.wellFormed_instr h
  · exact Decoded.wellFormed_rejected _

theorem withBits_wellFormed (w operand : Nat) {f : BitVec w → Instr} (h : ∀ v, (f v).wf = true) :
    (withBits w operand f).WellFormed := by
  unfold withBits
  split
  · exact Decoded.wellFormed_instr (h _)
  · exact Decoded.wellFormed_rejected _

theorem withPair_wellFormed (w operand : Nat) {f : BitVec w → BitVec w → Instr} (h : ∀ v v', (f v v').wf = true) :
    (withPair w operand f).WellFormed := by
  unfold withPair
  split
  · exact Decoded.wellFormed_instr (h _ _)
  · exact Decoded.wellFormed_rejected _

theorem withVoice_wellFormed (operand : Nat) {f : VoiceId → Instr} (h : ∀ n, (f n).wf = true) :
    (withVoice operand f).WellFormed := by
  unfold withVoice
  split
  · exact Decoded.wellFormed_instr (h _)
  · exact Decoded.wellFormed_rejected _

/-- The decoder rejects a step above the cap of R285. -/
theorem withVoiceStep_wellFormed (operand : Nat) : (withVoiceStep operand .intPitchAdvance).WellFormed := by
  unfold withVoiceStep
  split
  · split
    next hcap =>
      refine Decoded.wellFormed_instr (decide_eq_true ?_)
      rw [BitVec.toNat_ofNat]
      omega
    next => exact Decoded.wellFormed_rejected _
  · exact Decoded.wellFormed_rejected _

theorem atEntry_wellFormed (off : Offset) {d : Decoded} (h : d.WellFormed) : (atEntry off d).WellFormed := by
  unfold atEntry
  split
  · exact h
  · exact Decoded.wellFormed_rejected _

/-! ### Half-word accesses (R126, R150) -/

theorem rd16Of_wf (r : Reg) : (rd16Of r).wf = true := by
  cases r
  case voice r n => cases r <;> rfl
  all_goals rfl

theorem wr16Of_wf (r : Reg) (v : Half) : (wr16Of r v).wf = true := by
  cases r
  case voice r n => cases r <;> rfl
  all_goals rfl

/-- What a table of offsets answers is one of its entries. -/
theorem mem_of_lookupOffset {α : Type} {l : List (Nat × α)} {off : Nat} {x : α} (h : lookupOffset l off = some x) :
    (off, x) ∈ l := by
  induction l with
  | nil => cases h
  | cons c rest ih =>
    obtain ⟨o, y⟩ := c
    unfold lookupOffset at h
    split at h
    next ho =>
      cases h
      rw [ho]
      exact List.mem_cons_self
    next => exact List.mem_cons_of_mem _ (ih h)

theorem unrecRd16_wf : ∀ c ∈ unrecRd16, c.2.wf = true := by
  simp [unrecRd16, Instr.wf]

theorem unrecWr16_wf (v : Half) : ∀ c ∈ unrecWr16, (c.2 v).wf = true := by
  simp [unrecWr16, Instr.wf]

theorem rd16Other_wf {off : Offset} {i : Instr} (h : rd16Other off = some i) : i.wf = true := by
  unfold rd16Other at h
  split at h
  next hodd =>
    cases h
    exact hodd
  next =>
    split at h
    next htail =>
      cases h
      exact htail
    next => exact unrecRd16_wf _ (mem_of_lookupOffset h)

theorem wr16Other_wf {off : Offset} {f : Half → Instr} (h : wr16Other off = some f) (v : Half) : (f v).wf = true := by
  unfold wr16Other at h
  split at h
  next hodd =>
    cases h
    exact hodd
  next =>
    split at h
    next htail =>
      cases h
      exact htail
    next => exact unrecWr16_wf v _ (mem_of_lookupOffset h)

theorem decodeRd16_wellFormed (off : Offset) (operand : Nat) : (decodeRd16 off operand).WellFormed := by
  unfold decodeRd16
  split
  next r _ => exact withNone_wellFormed _ (rd16Of_wf r)
  next =>
    split
    next hi => exact withNone_wellFormed _ (rd16Other_wf hi)
    next => exact Decoded.wellFormed_rejected _

theorem decodeWr16_wellFormed (off : Offset) (operand : Nat) : (decodeWr16 off operand).WellFormed := by
  unfold decodeWr16
  split
  next r _ => exact withBits_wellFormed _ _ (wr16Of_wf r)
  next =>
    split
    next hf => exact withBits_wellFormed _ _ (wr16Other_wf hf)
    next => exact Decoded.wellFormed_rejected _

/-! ### The kinds (R111) -/

theorem decodeInt_wellFormed (off : Offset) (operand : Nat) : (decodeInt off operand).WellFormed := by
  unfold decodeInt
  split
  case h_7 => exact withVoiceStep_wellFormed _
  case h_9 | h_10 => exact withNone_wellFormed _ rfl
  case h_11 | h_12 | h_13 | h_14 => exact withPair_wellFormed _ _ fun _ _ => rfl
  case h_15 => exact Decoded.wellFormed_rejected _
  all_goals exact withVoice_wellFormed _ fun _ => rfl

/-- The decoder answers transactions of the opcode table alone. -/
theorem decode_wellFormed (t : Transaction) : (decode t).WellFormed := by
  unfold decode
  simp only
  split
  · exact decodeRd16_wellFormed _ _
  · exact decodeWr16_wellFormed _ _
  · exact withNone_wellFormed _ rfl
  · exact withBits_wellFormed _ _ fun _ => rfl
  · exact withNone_wellFormed _ rfl
  · exact withBits_wellFormed _ _ fun _ => rfl
  · exact atEntry_wellFormed _ (withNone_wellFormed _ rfl)
  · exact atEntry_wellFormed _ (withBits_wellFormed _ _ fun _ => rfl)
  · exact atEntry_wellFormed _ (Decoded.wellFormed_instr rfl)
  · exact atEntry_wellFormed _ (withPair_wellFormed _ _ fun _ _ => rfl)
  · exact decodeInt_wellFormed _ _
  · exact atEntry_wellFormed _ (withNone_wellFormed _ rfl)
  · exact Decoded.wellFormed_rejected _

end Sys2Proof
end

section
/-! PROOFS. What a transaction of either kind can do: the micro-operations with the operation each runs (spec/30_encoding.md R111),
the accesses that only answer, the word write as its two half-word writes (spec/40_register_file.md R153), and the two
inductions over an execution: what every operation keeps `exec` keeps, and what `exec` keeps every step keeps. -/

namespace Sys2Proof.Machine

open Sys2Proof Sys2Proof.Safety

/-! ### Micro-operations (R111) -/

/-- The operation that each micro-operation runs. -/
inductive InternalOp : Instr → (State → State) → Prop where
  | keyOn (n : VoiceId) : InternalOp (.intKeyOn n) (keyOn n)
  | keyOff (n : VoiceId) : InternalOp (.intKeyOff n) (keyOff n)
  | voiceStep (n : VoiceId) : InternalOp (.intVoiceStep n) (fun s => returningPair (voiceStep Config.params n s))
  | decodeBlock (n : VoiceId) : InternalOp (.intDecodeBlock n) (decodeBlock n)
  | interpolate (n : VoiceId) :
      InternalOp (.intInterpolate n) (fun s => returning (.int (interpolate Config.params (s.voice n))) s)
  | effectiveStep (n : VoiceId) : InternalOp (.intEffectiveStep n) (fun s => returning (.int (effectiveStep n s)) s)
  | pitchAdvance (n : VoiceId) (step : BitVec 15) : InternalOp (.intPitchAdvance n step) (pitchAdvance n step.toNat)
  | adsrTick (n : VoiceId) : InternalOp (.intAdsrTick n) (adsrTick n)
  | mixStep : InternalOp .intMixStep (mixStep Config.params)
  | keyLatch : InternalOp .intKeyLatch keyLatch
  | captureWrite (cl cr : Half) : InternalOp (.intCaptureWrite cl cr) (captureWrite cl cr)
  | finalMix (dryL dryR : BitVec 21) :
      InternalOp (.intFinalMix dryL dryR) (fun s => returningPair (finalMix dryL.toInt dryR.toInt s, s))
  | outputAppend (outL outR : Half) : InternalOp (.intOutputAppend outL outR) (outputAppend outL outR)
  | reverb (inL inR : Half) :
      InternalOp (.intReverb inL inR) (fun s => returningPair (reverb (s16 inL) (s16 inR) s))

/-- A micro-operation runs its operation in the frame of every transaction but `RESET`. -/
theorem exec_internal {i : Instr} (hi : i.isInternal = true) :
    ∃ f, InternalOp i f ∧ ∀ s, exec i s = .next (transact f s) := by
  cases i
  case intKeyOn n => exact ⟨_, .keyOn n, fun _ => rfl⟩
  case intKeyOff n => exact ⟨_, .keyOff n, fun _ => rfl⟩
  case intVoiceStep n => exact ⟨_, .voiceStep n, fun _ => rfl⟩
  case intDecodeBlock n => exact ⟨_, .decodeBlock n, fun _ => rfl⟩
  case intInterpolate n => exact ⟨_, .interpolate n, fun _ => rfl⟩
  case intEffectiveStep n => exact ⟨_, .effectiveStep n, fun _ => rfl⟩
  case intPitchAdvance n step => exact ⟨_, .pitchAdvance n step, fun _ => rfl⟩
  case intAdsrTick n => exact ⟨_, .adsrTick n, fun _ => rfl⟩
  case intMixStep => exact ⟨_, .mixStep, fun _ => rfl⟩
  case intKeyLatch => exact ⟨_, .keyLatch, fun _ => rfl⟩
  case intCaptureWrite cl cr => exact ⟨_, .captureWrite cl cr, fun _ => rfl⟩
  case intFinalMix dryL dryR => exact ⟨_, .finalMix dryL dryR, fun _ => rfl⟩
  case intOutputAppend outL outR => exact ⟨_, .outputAppend outL outR, fun _ => rfl⟩
  case intReverb inL inR => exact ⟨_, .reverb inL inR, fun _ => rfl⟩
  all_goals cases hi

/-! ### Operations that only answer -/

/-- From `s` to `t` no piece of state changed but `FAULT`, the trace and the result. -/
def OnlyAnswers (s t : State) : Prop := ∃ e tr r, t = { s with fault := e, trace := tr, result := r }

theorem OnlyAnswers.ram {s t : State} (h : OnlyAnswers s t) : t.ram = s.ram := by
  obtain ⟨_, _, _, rfl⟩ := h
  rfl

theorem OnlyAnswers.voices {s t : State} (h : OnlyAnswers s t) : t.voices = s.voices := by
  obtain ⟨_, _, _, rfl⟩ := h
  rfl

theorem OnlyAnswers.global {s t : State} (h : OnlyAnswers s t) : t.g = s.g := by
  obtain ⟨_, _, _, rfl⟩ := h
  rfl

theorem OnlyAnswers.out {s t : State} (h : OnlyAnswers s t) : t.out = s.out := by
  obtain ⟨_, _, _, rfl⟩ := h
  rfl

theorem returning_onlyAnswers (r : Result) (s : State) : OnlyAnswers s (returning r s) := ⟨_, _, _, rfl⟩

theorem unimplemented_onlyAnswers (p : Params) (kind : AccessKind) (off : Offset) (zero : Result) (s : State) :
    OnlyAnswers s (unimplemented p kind off zero s) := by
  obtain ⟨e, tr, r, heq, _⟩ := unimplemented_frame p kind off zero s
  exact ⟨e, tr, r, heq⟩

theorem readHalf_onlyAnswers (p : Params) (r : Reg) (s : State) : OnlyAnswers s (readHalf p r s) := by
  unfold readHalf
  split
  · exact returning_onlyAnswers _ s
  · exact unimplemented_onlyAnswers p _ _ _ s

theorem readByteAt_onlyAnswers (p : Params) (off : Offset) (s : State) : OnlyAnswers s (readByteAt p off s) := by
  unfold readByteAt
  split
  · exact returning_onlyAnswers _ s
  · exact unimplemented_onlyAnswers p _ _ _ s

theorem readWordAt_onlyAnswers (p : Params) (off : Offset) (s : State) : OnlyAnswers s (readWordAt p off s) := by
  unfold readWordAt
  split
  · split
    · exact returning_onlyAnswers _ s
    · exact unimplemented_onlyAnswers p _ _ _ s
  · exact unimplemented_onlyAnswers p _ _ _ s

/-- What a micro-operation answers is beside the state its rule leaves. -/
theorem returningPair_onlyAnswers (r : (Int × Int) × State) : OnlyAnswers r.2 (returningPair r) := by
  unfold returningPair
  split
  · exact ⟨_, _, _, rfl⟩
  · exact returning_onlyAnswers _ r.2

/-! ### The word write (R153) -/

/-- A word write is the unimplemented-register condition, or the two half-word writes, of which a fault leaves the first alone. -/
theorem writeWordAt_cases (p : Params) (off : Offset) (w : Word) (s : State) :
    OnlyAnswers s (writeWordAt p off w s) ∨
      ∃ r0 r1, off.toNat % 4 = 0 ∧ regAt off = some r0 ∧ regAt (off + 2) = some r1 ∧
        (writeWordAt p off w s = writeReg (wordLo w) s r0 ∨
          writeWordAt p off w s = writeReg (wordHi w) (writeReg (wordLo w) s r0) r1) := by
  unfold writeWordAt
  split
  next h4 =>
    split
    next r0 r1 h0 h1 =>
      refine .inr ⟨r0, r1, h4, h0, h1, ?_⟩
      simp only
      split
      · exact .inl rfl
      · exact .inr rfl
    next => exact .inl (unimplemented_onlyAnswers p _ _ _ s)
  next => exact .inl (unimplemented_onlyAnswers p _ _ _ s)

/-! ### What every operation keeps -/

/-- A transaction in the frame of R430 keeps what its answer leaves alone and its operation keeps in an unfaulted block. -/
theorem transact_keeps {P : State → Prop} {f : State → State} (hret : ∀ r s, P s → P (returning r s))
    (hf : ∀ s, NoError s → P s → P (f s)) {s : State} (h : P s) : P (transact f s) := by
  by_cases he : NoError s
  · rw [transact_of_noError f he]
    exact hf _ he (hret _ s h)
  · rw [transact_of_error f he]
    exact hret _ s h

/-- `exec` of a well-formed transaction keeps what reset establishes and every operation keeps. -/
theorem exec_keeps {P : State → Prop} (hreset : ∀ s, P (resetState s)) (hret : ∀ r s, P s → P (returning r s))
    (hout : ∀ f, OutsideOp f → ∀ s, NoError s → P s → P (f s))
    (hint : ∀ i f, i.wf = true → InternalOp i f → ∀ s, NoError s → P s → P (f s))
    {i : Instr} {s t : State} (hi : i.wf = true) (hs : P s) (ht : exec i s = .next t) : P t := by
  cases hk : i.isInternal
  case false =>
    rcases exec_outside hk with rfl | ⟨f, hf, hexec⟩
    · rw [exec_reset] at ht
      cases ht
      exact hreset s
    · rw [hexec s] at ht
      cases ht
      exact transact_keeps hret (hout f hf) hs
  case true =>
    obtain ⟨f, hf, hexec⟩ := exec_internal hk
    rw [hexec s] at ht
    cases ht
    exact transact_keeps hret (hint i f hi hf) hs

/-- A step keeps what does not speak of the presented transactions and `exec` of every well-formed one keeps. -/
theorem step_keeps {P : State → Prop} (hpending : ∀ l s, P s → P { s with pending := l })
    (hexec : ∀ i s t, i.wf = true → P s → exec i s = .next t → P t) {s t : State} (hs : P s) (ht : step s = .next t) :
    P t := by
  cases hp : s.pending with
  | nil =>
    rw [step_of_idle hp] at ht
    cases ht
    exact hs
  | cons tr rest =>
    cases hd : decode tr with
    | instr i =>
      rw [step_of_decoded hp hd] at ht
      exact hexec i _ t (decode_wellFormed tr i hd) (hpending rest s hs) ht
    | rejected e =>
      rw [step_of_rejected hp hd] at ht
      cases ht

end Sys2Proof.Machine
end

section
/-! PROOFS. The ranges of the state and the canonical form of Sound RAM (spec/10_state.md R57 I-a, I-c, I-d, I-f, I-g, R35,
spec/60_exceptions.md R436): reset establishes them, and every operation of an outside agent and every micro-operation keeps
them. -/

namespace Sys2Proof.Machine

open Sys2Proof Sys2Proof.Safety

theorem GlobalOk.reset : GlobalOk Global.reset :=
  ⟨by decide, by decide, by decide, by decide, by decide, by decide⟩

theorem OutOk.empty : OutOk [] := ⟨rfl, by decide⟩

theorem resetState_inv (s : State) : Inv (resetState s) where
  voices n := by
    have hv : (resetState s).voice n = Voice.reset := by simp [resetState, State.voice, State.reset]
    rw [hv]
    exact VoiceOk.reset
  globals := GlobalOk.reset
  output := OutOk.empty
  memory := reset_memory_wf

/-- The invariants speak of the voices, the global record, the output buffer and Sound RAM alone. -/
theorem inv_of_same {s t : State} (h : Inv s) (hv : t.voices = s.voices) (hg : t.g = s.g) (ho : t.out = s.out)
    (hr : t.ram = s.ram) : Inv t where
  voices n := by rw [voice_of_voices hv]; exact h.voices n
  globals := by rw [hg]; exact h.globals
  output := by rw [ho]; exact h.output
  memory := by rw [hr]; exact h.memory

theorem OnlyAnswers.inv {s t : State} (ha : OnlyAnswers s t) (h : Inv s) : Inv t :=
  inv_of_same h ha.voices ha.global ha.out ha.ram

/-- A rule of one voice keeps the invariants if it keeps that voice in range. -/
theorem VoiceChange.inv {n : VoiceId} {s t : State} (hc : VoiceChange n s t) (hn : VoiceOk (t.voice n)) (h : Inv s) :
    Inv t where
  voices := hc.ok hn h.voices
  globals := GlobalOk.of_voices hc.toVoices h.globals
  output := by rw [hc.out]; exact h.output
  memory := by rw [hc.ram]; exact h.memory

theorem adsrTick_ok {n : VoiceId} {s : State} (h : VoiceOk (s.voice n)) : VoiceOk ((adsrTick n s).voice n) := by
  rw [adsrTick_voice]
  exact adsrVoice_ok h

theorem writeWordAt_inv (p : Params) (off : Offset) (w : Word) {s : State} (h : Inv s) : Inv (writeWordAt p off w s) := by
  rcases writeWordAt_cases p off w s with ha | ⟨r0, r1, _, _, _, heq | heq⟩
  · exact ha.inv h
  · rw [heq]
    exact writeReg_inv _ r0 h
  · rw [heq]
    exact writeReg_inv _ r1 (writeReg_inv _ r0 h)

theorem OutsideOp.inv {f : State → State} (hf : OutsideOp f) {s : State} (h : Inv s) : Inv (f s) := by
  cases hf with
  | read r => exact (readHalf_onlyAnswers _ r s).inv h
  | write r v => exact writeReg_inv v r h
  | unimplemented kind off zero => exact (unimplemented_onlyAnswers _ kind off zero s).inv h
  | readByte off => exact (readByteAt_onlyAnswers _ off s).inv h
  | readWord off => exact (readWordAt_onlyAnswers _ off s).inv h
  | writeWord off w => exact writeWordAt_inv _ off w h
  | dmaRead => exact dmaRead_inv h
  | dmaWrite w => exact dmaWrite_inv w h
  | tick cycles => exact runTick_inv _ cycles h
  | cdPush l r => exact inv_of_same h rfl rfl rfl rfl

/-- Every micro-operation keeps the invariants; the pitch counter stays in its block since the step is at most the cap (R285). -/
theorem InternalOp.inv {i : Instr} {f : State → State} (hf : InternalOp i f) (hi : i.wf = true) {s : State} (h : Inv s) :
    Inv (f s) := by
  cases hf with
  | keyOn n => exact (keyOn_change n s).inv (keyOn_ok n s) h
  | keyOff n => exact (keyOff_change n s).inv (keyOff_ok (h.voices n)) h
  | voiceStep n =>
    exact (returningPair_onlyAnswers _).inv ((voiceStep_change _ n s).inv (voiceStep_ok (h.voices n)) h)
  | decodeBlock n => exact (decodeBlock_change n s).inv (decodeBlock_ok (h.voices n)) h
  | interpolate n => exact (returning_onlyAnswers _ s).inv h
  | effectiveStep n => exact (returning_onlyAnswers _ s).inv h
  | pitchAdvance n step =>
    have hstep : step.toNat ≤ 0x4000 := of_decide_eq_true hi
    exact (pitchAdvance_change n _ s).inv (pitchAdvance_ok (h.voices n) hstep) h
  | adsrTick n => exact (adsrTick_change n s).inv (adsrTick_ok (h.voices n)) h
  | mixStep => exact mixStep_inv _ h
  | keyLatch => exact keyLatch_inv h
  | captureWrite cl cr => exact captureWrite_inv cl cr h
  | finalMix dryL dryR => exact (returningPair_onlyAnswers (_, s)).inv h
  | outputAppend outL outR => exact outputAppend_inv outL outR h
  | reverb inL inR => exact (returningPair_onlyAnswers _).inv (reverb_inv _ _ h)

theorem exec_inv {i : Instr} {s t : State} (hi : i.wf = true) (hs : Inv s) (ht : exec i s = .next t) : Inv t :=
  exec_keeps resetState_inv (fun r s h => (returning_onlyAnswers r s).inv h) (fun _ hf _ _ h => hf.inv h)
    (fun _ _ hwf hf _ _ h => hf.inv hwf h) hi hs ht

/-- Settles O56: presenting is not the invariants' business, and `exec` of whatever the decoder reads keeps them. -/
theorem everyStepKeepsTheInvariants : Obligations.EveryStepKeepsTheInvariants := by
  unfold Obligations.EveryStepKeepsTheInvariants
  intro s t hs ht
  exact step_keeps (fun _ _ h => inv_of_same h rfl rfl rfl rfl) (fun _ _ _ => exec_inv) hs ht

end Sys2Proof.Machine
end

section
/-! PROOFS. R57 I-e, R340: the cycle counter of an unfaulted block is below one interval. Only a tick counts, and it ends at the
remainder unless a mix step faults. -/

namespace Sys2Proof.Machine

open Sys2Proof Sys2Proof.Safety

theorem resetState_counted (s : State) : Counted (resetState s) := fun _ => (by decide : (0 : Nat) < 0x300)

/-- What leaves the counter of an unfaulted block alone keeps it below one interval. -/
theorem counted_of_same {s t : State} (he : NoError s) (h : Counted s) (hc : t.g.cycleCount = s.g.cycleCount) :
    Counted t := by
  intro _
  rw [hc]
  exact h he

theorem returning_counted (r : Result) {s : State} (h : Counted s) : Counted (returning r s) := h

theorem OnlyAnswers.count {s t : State} (h : OnlyAnswers s t) : t.g.cycleCount = s.g.cycleCount := by rw [h.global]

theorem TransferChange.count {s t : State} (h : TransferChange s t) : t.g.cycleCount = s.g.cycleCount := by rw [h.global]

theorem VoiceChange.count {n : VoiceId} {s t : State} (h : VoiceChange n s t) : t.g.cycleCount = s.g.cycleCount := by
  rw [h.global]

theorem MixChange.count {s t : State} (h : MixChange s t) : t.g.cycleCount = s.g.cycleCount := by rw [h.global]

theorem writeWordAt_count (p : Params) (off : Offset) (w : Word) (s : State) :
    (writeWordAt p off w s).g.cycleCount = s.g.cycleCount := by
  rcases writeWordAt_cases p off w s with ha | ⟨r0, r1, _, _, _, heq | heq⟩
  · exact ha.count
  · rw [heq]
    exact (writeReg_change _ r0 s).count
  · rw [heq]
    exact ((writeReg_change _ r0 s).trans (writeReg_change _ r1 _)).count

/-- A tick has fuel for every crossing, so without a fault it ends at the remainder (R340). -/
theorem runTick_count (p : Params) (cycles : Nat) {s : State} (h : NoError (runTick p cycles s)) :
    (runTick p cycles s).g.cycleCount = (s.g.cycleCount + cycles) % 0x300 :=
  crossings_count p _ { s with g := { s.g with cycleCount := s.g.cycleCount + cycles } } le_rfl h

/-- A tick ends below the interval whatever the count was before it. -/
theorem runTick_counted (p : Params) (cycles : Nat) (s : State) : Counted (runTick p cycles s) := by
  intro h
  rw [runTick_count p cycles h]
  exact Nat.mod_lt _ (by decide)

theorem OutsideOp.counted {f : State → State} (hf : OutsideOp f) {s : State} (he : NoError s) (h : Counted s) :
    Counted (f s) := by
  cases hf with
  | read r => exact counted_of_same he h (readHalf_onlyAnswers _ r s).count
  | write r v => exact counted_of_same he h (writeReg_change v r s).count
  | unimplemented kind off zero => exact counted_of_same he h (unimplemented_onlyAnswers _ kind off zero s).count
  | readByte off => exact counted_of_same he h (readByteAt_onlyAnswers _ off s).count
  | readWord off => exact counted_of_same he h (readWordAt_onlyAnswers _ off s).count
  | writeWord off w => exact counted_of_same he h (writeWordAt_count _ off w s)
  | dmaRead => exact counted_of_same he h (dmaRead_change s).count
  | dmaWrite w => exact counted_of_same he h (dmaWrite_change w s).count
  | tick cycles => exact runTick_counted _ cycles s
  | cdPush l r => exact counted_of_same he h rfl

/-- No micro-operation counts. -/
theorem InternalOp.count {i : Instr} {f : State → State} (hf : InternalOp i f) (s : State) :
    (f s).g.cycleCount = s.g.cycleCount := by
  cases hf with
  | keyOn n => exact (keyOn_change n s).count
  | keyOff n => exact (keyOff_change n s).count
  | voiceStep n => exact (returningPair_onlyAnswers _).count.trans (voiceStep_change _ n s).count
  | decodeBlock n => exact (decodeBlock_change n s).count
  | interpolate n => exact (returning_onlyAnswers _ s).count
  | effectiveStep n => exact (returning_onlyAnswers _ s).count
  | pitchAdvance n step => exact (pitchAdvance_change n _ s).count
  | adsrTick n => exact (adsrTick_change n s).count
  | mixStep => exact (mixStep_mix _ s).count
  | keyLatch => exact (keyLatch_mix s).count
  | captureWrite cl cr => exact (captureWrite_mix cl cr s).count
  | finalMix dryL dryR => exact (returningPair_onlyAnswers (_, s)).count
  | outputAppend outL outR => exact (outputAppend_mix outL outR s).count
  | reverb inL inR => exact (returningPair_onlyAnswers _).count.trans (reverb_change _ _ s).toMix.count

theorem exec_counted {i : Instr} {s t : State} (hi : i.wf = true) (hs : Counted s) (ht : exec i s = .next t) : Counted t :=
  exec_keeps resetState_counted (fun r _ h => returning_counted r h) (fun _ hf _ he h => hf.counted he h)
    (fun _ _ _ hf s he h => counted_of_same he h (hf.count s)) hi hs ht

/-- Settles O57: a tick ends below the interval whatever the count was, and nothing else counts. -/
theorem everyStepKeepsTheCounter : Obligations.EveryStepKeepsTheCounter := by
  unfold Obligations.EveryStepKeepsTheCounter
  intro s t hs ht
  exact step_keeps (fun _ _ h => h) (fun _ _ _ => exec_counted) hs ht

/-- Settles O10: `RESET` establishes each of the three invariants in any state, so in the reset state, which it leaves as it is. -/
theorem resetMeetsTheInvariants : Obligations.ResetMeetsTheInvariants :=
  ⟨resetState_inv State.reset, resetState_counted State.reset, resetState_disabledOff State.reset⟩

end Sys2Proof.Machine
end

section
/-! PROOFS. What can change a byte of Sound RAM (spec/20_memory.md R80): every transaction that is not a writer of Sound RAM runs
an operation that leaves the whole of it as it was. -/

namespace Sys2Proof.Machine

open Sys2Proof Sys2Proof.Safety

/-! ### Operations that leave Sound RAM -/

/-- The operation leaves Sound RAM as it was, in every state. -/
def KeepsRam (f : State → State) : Prop := ∀ s, (f s).ram = s.ram

theorem transact_keepsRam {f : State → State} (hf : KeepsRam f) : KeepsRam (transact f) := by
  intro s
  exact transact_keeps (P := fun u => u.ram = s.ram) (fun _ _ h => h) (fun u _ h => (hf u).trans h) rfl

theorem readHalf_keepsRam (p : Params) (r : Reg) : KeepsRam (readHalf p r) := fun s => (readHalf_onlyAnswers p r s).ram

theorem unimplemented_keepsRam (p : Params) (kind : AccessKind) (off : Offset) (zero : Result) :
    KeepsRam (unimplemented p kind off zero) := fun s => (unimplemented_onlyAnswers p kind off zero s).ram

theorem readByteAt_keepsRam (p : Params) (off : Offset) : KeepsRam (readByteAt p off) := fun s =>
  (readByteAt_onlyAnswers p off s).ram

theorem readWordAt_keepsRam (p : Params) (off : Offset) : KeepsRam (readWordAt p off) := fun s =>
  (readWordAt_onlyAnswers p off s).ram

theorem dmaRead_keepsRam : KeepsRam dmaRead := by
  intro s
  unfold dmaRead
  split
  · exact (dmaIrqCheck_step s).ram
  · rfl

theorem cdPush_keepsRam (l r : Half) : KeepsRam (cdPush l r) := fun _ => rfl

theorem writeVoiceReg_ram (n : VoiceId) (v : Half) (s : State) (r : VoiceReg) : (writeVoiceReg n v s r).ram = s.ram := by
  cases r
  case adsrHi =>
    unfold writeVoiceReg
    simp only
    split <;> rfl
  all_goals rfl

theorem writeSpucnt_ram (v : Half) (s : State) : (writeSpucnt v s).ram = s.ram := by rw [writeSpucnt_eq]

theorem outputAppend_ram (l r : Half) (s : State) : (outputAppend l r s).ram = s.ram := by rw [outputAppend_eq]

/-- Of the registers, only the port writes Sound RAM. -/
theorem writeReg_keepsRam {r : Reg} (hr : r ≠ .xferPort) (v : Half) : KeepsRam (fun s => writeReg v s r) := by
  intro s
  cases r
  case voice r n => exact writeVoiceReg_ram n v s r
  case spucnt => exact writeSpucnt_ram v s
  case xferPort => exact absurd rfl hr
  all_goals rfl

/-- The port is the register at 0xDA8 alone (R114). -/
theorem offset_of_regAt_xferPort {off : Offset} (h : regAt off = some .xferPort) : off.toNat = 0xDA8 := by
  unfold regAt at h
  split at h
  · simp at h
  · have hmem := mem_of_lookupOffset h
    simpa [globalMap, reverbMap] using hmem

/-- A word write at another offset than 0xDA8 reaches the port with neither half. -/
theorem writeWordAt_keepsRam (p : Params) {off : Offset} (hoff : off ≠ 0xDA8) (w : Word) : KeepsRam (writeWordAt p off w) := by
  intro s
  rcases writeWordAt_cases p off w s with ha | ⟨r0, r1, h4, h0, h1, heq⟩
  · exact ha.ram
  · have hr0 : r0 ≠ .xferPort := by
      rintro rfl
      exact hoff (BitVec.eq_of_toNat_eq (offset_of_regAt_xferPort h0))
    have hr1 : r1 ≠ .xferPort := by
      rintro rfl
      have hport := offset_of_regAt_xferPort h1
      have h2 : (2 : Offset).toNat = 2 := rfl
      rw [BitVec.toNat_add, h2] at hport
      omega
    have hlo := writeReg_keepsRam hr0 (wordLo w) s
    rcases heq with heq | heq <;> rw [heq]
    · exact hlo
    · exact (writeReg_keepsRam hr1 (wordHi w) _).trans hlo

/-! ### Every transaction -/

/-- The transactions that can change a byte of Sound RAM (R80). -/
def RamWriter (i : Instr) : Prop :=
  (∃ v, i = .wr16XferPort v) ∨ (∃ w, i = .wr32 0xDA8 w) ∨ (∃ w, i = .dmaWr w) ∨ (∃ c, i = .tick c) ∨
    i = .intMixStep ∨ (∃ cl cr, i = .intCaptureWrite cl cr) ∨ (∃ inL inR, i = .intReverb inL inR) ∨ i = .reset

/-- Three of the micro-operations write Sound RAM: the mix step, its capture write and its reverb processor. -/
theorem InternalOp.ramWriter_or_keepsRam {i : Instr} {f : State → State} (hf : InternalOp i f) :
    RamWriter i ∨ KeepsRam f := by
  cases hf with
  | keyOn n => exact .inr fun s => (keyOn_change n s).ram
  | keyOff n => exact .inr fun s => (keyOff_change n s).ram
  | voiceStep n => exact .inr fun s => (returningPair_onlyAnswers _).ram.trans (voiceStep_change _ n s).ram
  | decodeBlock n => exact .inr fun s => (decodeBlock_change n s).ram
  | interpolate n => exact .inr fun _ => rfl
  | effectiveStep n => exact .inr fun _ => rfl
  | pitchAdvance n step => exact .inr fun s => (pitchAdvance_change n _ s).ram
  | adsrTick n => exact .inr fun s => (adsrTick_change n s).ram
  | mixStep => exact .inl (by simp [RamWriter])
  | keyLatch => exact .inr fun s => (keyLatch_change s).ram
  | captureWrite cl cr => exact .inl (by simp [RamWriter])
  | finalMix dryL dryR => exact .inr fun s => (returningPair_onlyAnswers (_, s)).ram
  | outputAppend outL outR => exact .inr fun s => outputAppend_ram outL outR s
  | reverb inL inR => exact .inl (by simp [RamWriter])

/-- `exec i` leaves Sound RAM as it was. -/
def ExecKeepsRam (i : Instr) : Prop := ∃ f, KeepsRam f ∧ ∀ s, exec i s = .next (transact f s)

/-- Every transaction is a writer of Sound RAM or leaves it. -/
theorem ramWriter_or_execKeepsRam (i : Instr) : RamWriter i ∨ ExecKeepsRam i := by
  cases hk : i.isInternal
  case true =>
    obtain ⟨f, hf, hexec⟩ := exec_internal hk
    exact hf.ramWriter_or_keepsRam.imp_right fun hkeeps => ⟨f, hkeeps, hexec⟩
  cases i
  case wr16XferPort | dmaWr | tick | reset => exact .inl (by simp [RamWriter])
  case rd16VolL | rd16VolR | rd16Pitch | rd16Start | rd16AdsrLo | rd16AdsrHi | rd16Env | rd16Repeat
      | rd16MvolL | rd16MvolR | rd16VLOUT | rd16VROUT | rd16KonLo | rd16KonHi | rd16KoffLo | rd16KoffHi
      | rd16PmonLo | rd16PmonHi | rd16NonLo | rd16NonHi | rd16EonLo | rd16EonHi | rd16EndxLo | rd16EndxHi
      | rd16Mbase | rd16IrqAddr | rd16XferAddr | rd16XferPort | rd16Spucnt | rd16Spustat | rd16CdvolL | rd16CdvolR
      | rd16ExtvolL | rd16ExtvolR
      | rd16DAPF1 | rd16DAPF2 | rd16VIIR | rd16VCOMB1 | rd16VCOMB2 | rd16VCOMB3 | rd16VCOMB4 | rd16VWALL
      | rd16VAPF1 | rd16VAPF2 | rd16MLSAME | rd16MRSAME | rd16MLCOMB1 | rd16MRCOMB1 | rd16MLCOMB2 | rd16MRCOMB2
      | rd16DLSAME | rd16DRSAME | rd16MLDIFF | rd16MRDIFF | rd16MLCOMB3 | rd16MRCOMB3 | rd16MLCOMB4 | rd16MRCOMB4
      | rd16DLDIFF | rd16DRDIFF | rd16MLAPF1 | rd16MRAPF1 | rd16MLAPF2 | rd16MRAPF2 | rd16VLIN | rd16VRIN =>
    exact .inr ⟨_, readHalf_keepsRam _ _, fun _ => rfl⟩
  case rd16UnrecDA0 | rd16UnrecDAC | rd16UnrecDB8 | rd16UnrecDBA | rd16UnrecDBC | rd16UnrecDBE | rd16UnrecE00
      | rd16Misaligned | wr16UnrecDA0 | wr16UnrecDAC | wr16UnrecDB8 | wr16UnrecDBA | wr16UnrecDBC | wr16UnrecDBE
      | wr16UnrecE00 | wr16Misaligned | wr8 =>
    exact .inr ⟨_, unimplemented_keepsRam _ _ _ _, fun _ => rfl⟩
  case rd8 off => exact .inr ⟨_, readByteAt_keepsRam _ off, fun _ => rfl⟩
  case rd32 off => exact .inr ⟨_, readWordAt_keepsRam _ off, fun _ => rfl⟩
  case wr32 off w =>
    by_cases hoff : off = 0xDA8
    · exact .inl (by simp [RamWriter, hoff])
    · exact .inr ⟨_, writeWordAt_keepsRam _ hoff w, fun _ => rfl⟩
  case dmaRd => exact .inr ⟨_, dmaRead_keepsRam, fun _ => rfl⟩
  case cdPush l r => exact .inr ⟨_, cdPush_keepsRam l r, fun _ => rfl⟩
  case intKeyOn | intKeyOff | intVoiceStep | intDecodeBlock | intInterpolate | intEffectiveStep | intPitchAdvance
      | intAdsrTick | intMixStep | intKeyLatch | intCaptureWrite | intFinalMix | intOutputAppend | intReverb => cases hk
  -- what is left is the half-word writes of the registers other than the port
  all_goals exact .inr ⟨_, writeReg_keepsRam (by simp) _, fun _ => rfl⟩

/-- Settles O60: a transaction after which a byte reads differently does not leave Sound RAM, so it is one of the writers. -/
theorem soundRamWriters : Obligations.SoundRamWriters := by
  unfold Obligations.SoundRamWriters
  intro i s t a ht hne
  rcases ramWriter_or_execKeepsRam i with hw | ⟨f, hf, hexec⟩
  · exact hw
  · rw [hexec s] at ht
    cases ht
    exact absurd (memRead1_congr (transact_keepsRam hf s) a) hne

end Sys2Proof.Machine
end

section
/-! PROOFS. The CD queue (spec/43_mixer_tick.md R353). -/

namespace Sys2Proof.Machine

open Sys2Proof Sys2Proof.Safety

theorem exec_cdPush (l r : Half) (s : State) : exec (.cdPush l r) s = .next (transact (cdPush l r) s) := rfl

/-- Settles O30: an unfaulted block runs the push, which appends and returns nothing. -/
theorem cdPushAppends : Obligations.CdPushAppends := by
  unfold Obligations.CdPushAppends
  intro l r s h
  rw [exec_cdPush, transact_of_noError _ h]
  rfl

end Sys2Proof.Machine
end

section
/-! PROOFS. The transfers at the cursor (spec/20_memory.md R83, R84, R189, R410, R411, R438): what the manual-write port stores and
checks, and that `DMA_RD` returns what was stored. -/

namespace Sys2Proof.Machine

open Sys2Proof Sys2Proof.Safety

/-! ### The transactions, as operations -/

theorem exec_wr16XferAddr (a : Half) (s : State) :
    exec (.wr16XferAddr a) s = .next (transact (fun s => writeReg a s .xferAddr) s) := rfl

theorem exec_wr16XferPort (v : Half) (s : State) : exec (.wr16XferPort v) s = .next (transact (writePort v) s) := rfl

theorem exec_dmaWr (w : Word) (s : State) : exec (.dmaWr w) s = .next (transact (dmaWrite w) s) := rfl

theorem exec_dmaRd (s : State) : exec .dmaRd s = .next (transact dmaRead s) := rfl

theorem xferModeOk_iff (spucnt : Half) : xferModeOk spucnt = true ↔ xferMode spucnt = 2 := by simp [xferModeOk]

theorem dmaWrite_ok {s : State} (h : xferMode s.g.spucnt = 2) (w : Word) :
    dmaWrite w s =
      setCursor (s.g.xferCur + 4)
        (memWrite2 (s.g.xferCur.toNat + 2) (wordHi w) (memWrite2 s.g.xferCur.toNat (wordLo w) (dmaIrqCheck s))) := by
  simp [dmaWrite, (xferModeOk_iff _).2 h]

/-- With transfer mode 2 a DMA read answers with the word at the cursor (R411). -/
theorem dmaRead_result {s : State} (h : xferMode s.g.spucnt = 2) :
    (dmaRead s).result = .word (mkWord (memRead2 s (s.g.xferCur.toNat + 2)) (memRead2 s s.g.xferCur.toNat)) := by
  simp [dmaRead, (xferModeOk_iff _).2 h, memRead2_congr (dmaIrqCheck_step s).ram]

/-! ### A cell written, in the words of the statements -/

/-- A cell write stores its two bytes, low byte first (R83). -/
theorem memWrite2_stored {s : State} (hw : Memory.wf s.ram = true) (a : Nat) (v : Half) :
    Stored a [loByte v, hiByte v] s (memWrite2 a v s) := by
  intro x hx
  rw [memRead1_memWrite2 hw]
  by_cases hhi : x % 0x80000 = (a + 1) % 0x80000
  · have hidx : (x + 0x80000 - a % 0x80000) % 0x80000 = 1 := by omega
    rw [if_pos hhi, hidx]
    rfl
  by_cases hlo : x % 0x80000 = a % 0x80000
  · have hidx : (x + 0x80000 - a % 0x80000) % 0x80000 = 0 := by omega
    rw [if_neg hhi, if_pos hlo, hidx]
    rfl
  · have hidx : 2 ≤ (x + 0x80000 - a % 0x80000) % 0x80000 := by omega
    have hnone : [loByte v, hiByte v][(x + 0x80000 - a % 0x80000) % 0x80000]? = none := List.getElem?_eq_none hidx
    rw [if_neg hhi, if_neg hlo, hnone]
    rfl

/-- Writing the next cell leaves this one. -/
theorem memRead2_memWrite2_next {s : State} (hw : Memory.wf s.ram = true) (a : Nat) (h : Half) :
    memRead2 (memWrite2 (a + 2) h s) a = memRead2 s a := by
  have hbyte : ∀ x, x = a ∨ x = a + 1 → memRead1 (memWrite2 (a + 2) h s) x = memRead1 s x := by
    intro x hx
    rw [memRead1_memWrite2 hw, if_neg (by omega), if_neg (by omega)]
  rw [memRead2, memRead2, hbyte a (.inl rfl), hbyte (a + 1) (.inr rfl)]

/-! ### A check, in the words of the statements -/

/-- Signalling under a condition is the check of that condition (R436). -/
theorem signalIrq_checked (hit : Prop) [Decidable hit] (source : IrqSource) (s : State) :
    Checked hit source s (if hit then signalIrq source s else s) := by
  refine ⟨fun ⟨hh, he, hf⟩ => ?_, fun hq => ?_⟩
  · rw [if_pos hh, signalIrq_raises he hf]
    exact ⟨rfl, rfl⟩
  · by_cases hh : hit
    · have hquiet : irq9En s.g.spucnt = false ∨ s.g.irqFlag = true := by
        by_contra hne
        simp only [not_or, Bool.not_eq_false, Bool.not_eq_true] at hne
        exact hq ⟨hh, hne⟩
      rw [if_pos hh, signalIrq_quiet hquiet]
      exact ⟨rfl, rfl⟩
    · rw [if_neg hh]
      exact ⟨rfl, rfl⟩

theorem checked_congr {hit hit' : Prop} {source : IrqSource} {s t : State} (hiff : hit ↔ hit')
    (h : Checked hit source s t) : Checked hit' source s t := propext hiff ▸ h

/-- `CellIrqCheck` checks for the IRQ address and the cell before it (R438). -/
theorem cellIrqCheck_checked (a : RamAddr) (s : State) :
    Checked (a.toNat = s.g.irqAddr.toNat * 8 ∨ a.toNat = (s.g.irqAddr.toNat * 8 + 0x7FFFE) % 0x80000) (.cell a) s
      (cellIrqCheck a s) := by
  have hiff := irqCell_iff s a
  simp only [irqCell, Bool.or_eq_true, decide_eq_true_eq] at hiff
  exact checked_congr hiff.symm (signalIrq_checked _ (.cell a) s)

/-! ### The port (R189) -/

/-- The port with transfer mode 2 changes Sound RAM, the cursor, and the flag and the trace through its check. -/
theorem writePort_eq {s : State} (h : xferMode s.g.spucnt = 2) (v : Half) :
    writePort v s =
      { s with
        ram := (writePort v s).ram
        g := { s.g with xferCur := s.g.xferCur + 2, irqFlag := (writePort v s).g.irqFlag }
        trace := (writePort v s).trace } := by
  rw [writePort_ok ((xferModeOk_iff _).2 h)]
  rw [(cellIrqCheck_step s.g.xferCur (memWrite2 s.g.xferCur.toNat v s)).eq]
  rfl

theorem writePort_ram {s : State} (h : xferMode s.g.spucnt = 2) (v : Half) :
    (writePort v s).ram = (memWrite2 s.g.xferCur.toNat v s).ram := by
  rw [writePort_ok ((xferModeOk_iff _).2 h), setCursor_ram, (cellIrqCheck_step _ _).ram]

theorem writePort_stored {s : State} (hw : Memory.wf s.ram = true) (h : xferMode s.g.spucnt = 2) (v : Half) :
    Stored s.g.xferCur.toNat [loByte v, hiByte v] s (writePort v s) := by
  intro x hx
  rw [memRead1_congr (writePort_ram h v)]
  exact memWrite2_stored hw _ v x hx

theorem writePort_checked {s : State} (h : xferMode s.g.spucnt = 2) (v : Half) :
    Checked
      (s.g.xferCur.toNat = s.g.irqAddr.toNat * 8 ∨ s.g.xferCur.toNat = (s.g.irqAddr.toNat * 8 + 0x7FFFE) % 0x80000)
      (.cell s.g.xferCur) s (writePort v s) := by
  rw [writePort_ok ((xferModeOk_iff _).2 h)]
  exact cellIrqCheck_checked s.g.xferCur (memWrite2 s.g.xferCur.toNat v s)

/-- Settles O19: an unfaulted block runs the port, which is a cell write, a cell check and a step of the cursor. -/
theorem manualWritePort : Obligations.ManualWritePort := by
  unfold Obligations.ManualWritePort
  intro v s he hw hm
  rw [exec_wr16XferPort, transact_of_noError _ he]
  exact ⟨_, rfl, writePort_eq (s := returning .none s) hm v, writePort_stored (s := returning .none s) hw hm v,
    writePort_checked (s := returning .none s) hm v⟩

/-! ### The round trip (R411) -/

/-- What a transfer needs: no error, Sound RAM in canonical form, transfer mode 2. -/
structure TransferReady (s : State) : Prop where
  noError : NoError s
  memory : Memory.wf s.ram = true
  mode : xferMode s.g.spucnt = 2

theorem TransferReady.returning {s : State} (h : TransferReady s) (r : Result) : TransferReady (returning r s) :=
  ⟨h.noError, h.memory, h.mode⟩

theorem dmaIrqCheck_wf {s : State} (hw : Memory.wf s.ram = true) : Memory.wf (dmaIrqCheck s).ram = true := by
  rw [(dmaIrqCheck_step s).ram]
  exact hw

theorem writePort_ready {s : State} (h : TransferReady s) (v : Half) : TransferReady (writePort v s) where
  noError := by rw [writePort_eq h.mode]; exact h.noError
  memory := by rw [writePort_ram h.mode]; exact memWrite2_wf h.memory _ _
  mode := by rw [(writePort_change v s).spucnt]; exact h.mode

theorem dmaWrite_ready {s : State} (h : TransferReady s) (w : Word) : TransferReady (dmaWrite w s) where
  noError := by
    rw [dmaWrite_ok h.mode]
    exact (dmaIrqCheck_step s).fault.trans h.noError
  memory := by
    rw [dmaWrite_ok h.mode]
    exact memWrite2_wf (memWrite2_wf (dmaIrqCheck_wf h.memory) _ _) _ _
  mode := by rw [(dmaWrite_change w s).spucnt]; exact h.mode

/-- The cell the port stores reads as the value written (R84, R189). -/
theorem writePort_cell {s : State} (h : TransferReady s) (v : Half) :
    memRead2 (writePort v s) s.g.xferCur.toNat = v := by
  rw [memRead2_congr (writePort_ram h.mode v), memRead2_memWrite2 h.memory]

/-- The two cells a DMA write stores read as the halves of the word, low half first (R84, R410). -/
theorem dmaWrite_cells {s : State} (h : TransferReady s) (w : Word) :
    memRead2 (dmaWrite w s) s.g.xferCur.toNat = wordLo w ∧
      memRead2 (dmaWrite w s) (s.g.xferCur.toNat + 2) = wordHi w := by
  have hcheck := dmaIrqCheck_wf h.memory
  have hlow := memWrite2_wf hcheck s.g.xferCur.toNat (wordLo w)
  rw [dmaWrite_ok h.mode, memRead2_congr (setCursor_ram _ _), memRead2_congr (setCursor_ram _ _)]
  exact ⟨(memRead2_memWrite2_next hlow _ _).trans (memRead2_memWrite2 hcheck _ _), memRead2_memWrite2 hlow _ _⟩

/-! The transactions of the round trip, each from what it needs to what the next one needs. -/

/-- What `exec` answers for an unfaulted block is the operation's state. -/
theorem eq_of_transact_next {f : State → State} {s t : State} (he : NoError s)
    (h : (.next (transact f s) : Host.Outcome State Fault Refusal) = .next t) : t = f (returning .none s) := by
  rw [transact_of_noError f he] at h
  exact (Host.Outcome.next.inj h).symm

/-- Writing `XFER_ADDR` sets the cursor and leaves Sound RAM (R188). -/
theorem wr16XferAddr_next {a : Half} {s t : State} (hs : TransferReady s) (h : exec (.wr16XferAddr a) s = .next t) :
    TransferReady t ∧ t.g.xferCur = cursorOf a ∧ t.ram = s.ram := by
  obtain rfl := eq_of_transact_next hs.noError h
  exact ⟨⟨hs.noError, hs.memory, hs.mode⟩, rfl, rfl⟩

theorem wr16XferPort_next {v : Half} {s t : State} (hs : TransferReady s) (h : exec (.wr16XferPort v) s = .next t) :
    TransferReady t ∧ memRead2 t s.g.xferCur.toNat = v := by
  obtain rfl := eq_of_transact_next hs.noError h
  exact ⟨writePort_ready (hs.returning _) v, writePort_cell (hs.returning _) v⟩

theorem dmaWr_next {w : Word} {s t : State} (hs : TransferReady s) (h : exec (.dmaWr w) s = .next t) :
    TransferReady t ∧ memRead2 t s.g.xferCur.toNat = wordLo w ∧ memRead2 t (s.g.xferCur.toNat + 2) = wordHi w := by
  obtain rfl := eq_of_transact_next hs.noError h
  exact ⟨dmaWrite_ready (hs.returning _) w, dmaWrite_cells (hs.returning _) w⟩

/-- `XFER_ADDR` written and `DMA_RD` performed: the result is the word at that address (R188, R411). -/
theorem dmaRd_after_wr16XferAddr {a : Half} {s s' t : State} (hs : TransferReady s)
    (haddr : exec (.wr16XferAddr a) s = .next s') (hread : exec .dmaRd s' = .next t) :
    t.result = .word (mkWord (memRead2 s ((cursorOf a).toNat + 2)) (memRead2 s (cursorOf a).toNat)) := by
  obtain ⟨hs', hcur, hram⟩ := wr16XferAddr_next hs haddr
  obtain rfl := eq_of_transact_next hs'.noError hread
  rw [dmaRead_result (hs'.returning _).mode, returning_g, hcur, memRead2_congr ((returning_ram _ _).trans hram),
    memRead2_congr ((returning_ram _ _).trans hram)]

/-- Settles O29: the address write puts the cursor on the same cell before the store and before the read, and the cells stored
are the cells read. -/
theorem transferRoundTrip : Obligations.TransferRoundTrip := by
  unfold Obligations.TransferRoundTrip
  intro a v w s s1 s2 s3 s4 he hw hm h1
  obtain ⟨hs1, hcur, _⟩ := wr16XferAddr_next ⟨he, hw, hm⟩ h1
  refine ⟨fun h2 h3 h4 => ?_, fun h2 h3 h4 => ?_⟩
  · obtain ⟨hs2, hlo, hhi⟩ := dmaWr_next hs1 h2
    rw [hcur] at hlo hhi
    rw [dmaRd_after_wr16XferAddr hs2 h3 h4, hlo, hhi, mkWord_halves]
  · obtain ⟨hs2, hlo⟩ := wr16XferPort_next hs1 h2
    rw [hcur] at hlo
    rw [dmaRd_after_wr16XferAddr hs2 h3 h4, hlo]
    exact ⟨_, rfl⟩

end Sys2Proof.Machine
end

section
/-! PROOFS. The register map (spec/30_encoding.md R112 to R115, R126): which register lies at an offset, in both directions, and the
offsets at which none lies. -/

namespace Sys2Proof

open Sys2Proof.Machine

/-! ### The registers of a voice (R113) -/

theorem voiceRegAt_eq_some_iff {k : Nat} {r : VoiceReg} : voiceRegAt k = some r ↔ k = r.sub := by
  constructor
  · intro h
    unfold voiceRegAt at h
    split at h <;> cases h <;> rfl
  · rintro rfl
    cases r <;> rfl

/-- The sub-offsets are the even numbers below 16. -/
theorem voiceRegAt_of_even {k : Nat} (hk : k < 16) (he : k % 2 = 0) : ∃ r, voiceRegAt k = some r := by
  obtain ⟨m, rfl⟩ := Nat.dvd_of_mod_eq_zero he
  have hm : m < 8 := by omega
  interval_cases m <;> exact ⟨_, rfl⟩

theorem VoiceReg.sub_range (r : VoiceReg) : r.sub < 16 ∧ r.sub % 2 = 0 := by
  cases r <;> decide

/-- In the voice range the map splits an offset at bit 4. -/
theorem regAt_of_voice {off : Offset} {n : VoiceId} {k : Nat} (hk : k < 16) (hoff : off.toNat = 0xC00 + 0x10 * n.val + k) :
    regAt off = (voiceRegAt k).map fun r => .voice r n := by
  have hn := n.isLt
  have hmod : off.toNat % 16 = k := by omega
  have hvoice : (⟨off.toNat / 16 - 0xC0, by omega⟩ : VoiceId) = n := Fin.ext (by simp only; omega)
  unfold regAt
  rw [dif_pos (by omega), hmod, hvoice]

/-- The voice whose registers lie around an offset below 0xD80. -/
def voiceOf (off : Offset) (h : off.toNat ≤ 0xD7F) : VoiceId := ⟨off.toNat / 16 - 0xC0, by omega⟩

theorem voiceOf_val (off : Offset) (h : off.toNat ≤ 0xD7F) : (voiceOf off h).val = off.toNat / 16 - 0xC0 := rfl

theorem regAt_in_voices {off : Offset} (hlo : 0xC00 ≤ off.toNat) (hhi : off.toNat ≤ 0xD7F) :
    regAt off = (voiceRegAt (off.toNat % 16)).map fun r => .voice r (voiceOf off hhi) := by
  have hval := voiceOf_val off hhi
  exact regAt_of_voice (by omega) (by omega)

/-! ### The other registers (R114, R115) -/

/-- Outside the voice range a register is selected by its whole offset. -/
theorem regAt_of_not_voice {off : Offset} (h : ¬ (0xC00 ≤ off.toNat ∧ off.toNat ≤ 0xD7F)) :
    regAt off = lookupOffset (globalMap ++ reverbMap) off.toNat := by
  unfold regAt
  rw [dif_neg (by omega)]

/-- The two tables list the offsets of the registers. -/
theorem offset_of_mem_maps : ∀ c ∈ globalMap ++ reverbMap, c.1 = c.2.offset := by decide

/-! ### The map and the offsets are inverse to each other -/

theorem offset_of_regAt {off : Offset} {r : Reg} (h : regAt off = some r) : off.toNat = r.offset := by
  by_cases hv : 0xC00 ≤ off.toNat ∧ off.toNat ≤ 0xD7F
  · rw [regAt_in_voices hv.1 hv.2] at h
    obtain ⟨vr, hvr, rfl⟩ := Option.map_eq_some_iff.mp h
    have hsub := voiceRegAt_eq_some_iff.mp hvr
    have hval := voiceOf_val off hv.2
    simp only [Reg.offset]
    omega
  · rw [regAt_of_not_voice hv] at h
    exact offset_of_mem_maps _ (mem_of_lookupOffset h)

theorem regAt_offset (r : Reg) : regAt (BitVec.ofNat 12 r.offset) = some r := by
  cases r
  case voice vr n =>
    have hn := n.isLt
    obtain ⟨hsub, _⟩ := vr.sub_range
    rw [regAt_of_voice (n := n) hsub (by simp only [Reg.offset, BitVec.toNat_ofNat]; omega),
      voiceRegAt_eq_some_iff.mpr rfl]
    rfl
  all_goals rfl

theorem regAt_eq_some_iff {off : Offset} {r : Reg} : regAt off = some r ↔ off.toNat = r.offset := by
  refine ⟨offset_of_regAt, fun h => ?_⟩
  rw [← regAt_offset r, ← h, BitVec.ofNat_toNat, BitVec.setWidth_eq]

/-- The registers lie at even offsets, 0xC00 to 0xDFE. -/
theorem Reg.offset_range (r : Reg) : 0xC00 ≤ r.offset ∧ r.offset < 0xE00 ∧ r.offset % 2 = 0 := by
  cases r
  case voice vr n =>
    have hn := n.isLt
    obtain ⟨hlt, heven⟩ := vr.sub_range
    simp only [Reg.offset]
    omega
  all_goals decide

theorem regAt_eq_none_of_not_range {off : Offset} (h : off.toNat < 0xC00 ∨ 0xE00 ≤ off.toNat ∨ off.toNat % 2 = 1) :
    regAt off = none := by
  cases hr : regAt off with
  | none => rfl
  | some r =>
    have hoff := offset_of_regAt hr
    have hrange := r.offset_range
    omega

/-- The even offsets of the window below 0xE00 that hold no register (R126). -/
def unmappedOffsets : List Nat := [0xDA0, 0xDAC, 0xDB8, 0xDBA, 0xDBC, 0xDBE]

/-- Between the voices and 0xE00 the tables leave out the odd offsets and six even ones. -/
theorem lookupOffset_maps_eq_none_iff :
    ∀ k < 0x80, lookupOffset (globalMap ++ reverbMap) (0xD80 + k) = none ↔ k % 2 = 1 ∨ 0xD80 + k ∈ unmappedOffsets := by
  decide +kernel

/-- Where the window holds no register (R126). -/
theorem regAt_eq_none_iff {off : Offset} (hlo : 0xC00 ≤ off.toNat) :
    regAt off = none ↔ off.toNat % 2 = 1 ∨ off.toNat ∈ unmappedOffsets ∨ 0xE00 ≤ off.toNat := by
  rcases le_or_gt off.toNat 0xD7F with hvoice | habove
  · have hgap : off.toNat ∉ unmappedOffsets := by simp [unmappedOffsets]; omega
    constructor
    · intro hnone
      by_contra hne
      obtain ⟨r, hr⟩ := voiceRegAt_of_even (k := off.toNat % 16) (by omega) (by omega)
      rw [regAt_in_voices hlo hvoice, hr] at hnone
      cases hnone
    · intro h
      exact regAt_eq_none_of_not_range (by tauto)
  rcases lt_or_ge off.toNat 0xE00 with htable | htail
  · have htail_lt : ¬ 0xE00 ≤ off.toNat := by omega
    have h := lookupOffset_maps_eq_none_iff (off.toNat - 0xD80) (by omega)
    rw [Nat.add_sub_cancel' (by omega : 0xD80 ≤ off.toNat)] at h
    have hparity : (off.toNat - 0xD80) % 2 = off.toNat % 2 := by omega
    rw [regAt_of_not_voice (by omega), h, hparity]
    simp [htail_lt]
  · exact iff_of_true (regAt_eq_none_of_not_range (.inr (.inl htail))) (.inr (.inr htail))

/-! ### What a half-word read recognises -/

theorem readReg_eq_none_iff {s : State} {r : Reg} : readReg s r = none ↔ r = .xferPort := by
  cases r <;> simp [readReg]

/-- A half-word read recognises the registers but the write-only port (R126, R189). -/
theorem readAt_eq_none_iff {s : State} {off : Offset} :
    readAt s off = none ↔ regAt off = none ∨ off.toNat = 0xDA8 := by
  have hport : regAt off = some .xferPort ↔ off.toNat = 0xDA8 := regAt_eq_some_iff
  rw [← hport]
  unfold readAt
  cases hr : regAt off with
  | none => simp
  | some r => simp [readReg_eq_none_iff]

/-- Bits 11:4 of an offset, as a number. -/
theorem voiceBits_toNat (off : Offset) : ((off &&& 0xFF0) >>> 4).toNat = off.toNat / 16 :=
  calc ((off &&& 0xFF0) >>> 4).toNat
    _ = off.toNat >>> 4 &&& (2 ^ 8 - 1) := by
      rw [BitVec.toNat_ushiftRight, BitVec.toNat_and, Nat.shiftRight_and_distrib]
      rfl
    _ = off.toNat / 16 % 2 ^ 8 := by rw [Nat.and_two_pow_sub_one_eq_mod, Nat.shiftRight_eq_div_pow]
    _ = off.toNat / 16 := Nat.mod_eq_of_lt (by omega)

/-- Settles O4: below 0xD80 bits 11:4 give the voice, and an even number below 16 is the sub-offset of a register. -/
theorem voiceOffsetsByFormula : Obligations.VoiceOffsetsByFormula := by
  unfold Obligations.VoiceOffsetsByFormula
  intro off hlo hhi heven
  obtain ⟨r, hr⟩ := voiceRegAt_of_even (k := off.toNat % 16) (by omega) (by omega)
  refine ⟨r, voiceOf off (by omega), ?_, ?_, ?_⟩
  · rw [regAt_in_voices hlo (by omega), hr]
    rfl
  · rw [voiceBits_toNat]
    rfl
  · rw [← voiceRegAt_eq_some_iff.mp hr]
    exact (Nat.and_two_pow_sub_one_eq_mod off.toNat 4).symm

/-- Settles O5: the write recognises where a register lies, the read all of these but the port. -/
theorem unrecognisedOffsets : Obligations.UnrecognisedOffsets := by
  unfold Obligations.UnrecognisedOffsets
  intro s off hlo _
  have hmap := regAt_eq_none_iff hlo
  refine ⟨?_, hmap⟩
  rw [readAt_eq_none_iff, hmap]
  unfold unmappedOffsets
  tauto

end Sys2Proof
end

section
/-! PROOFS. Decoding what was encoded (spec/30_encoding.md R110 to R115): each operand form reads back the operand that was packed
for it, and each kind its own selector. -/

namespace Sys2Proof

open Sys2Proof.Machine

/-! ### The operand forms read back what was packed (R111) -/

theorem withNone_zero (i : Instr) : withNone 0 i = .instr i := rfl

theorem withBits_toNat {w : Nat} (v : BitVec w) (f : BitVec w → Instr) : withBits w v.toNat f = .instr (f v) := by
  rw [withBits, if_pos v.isLt, BitVec.ofNat_toNat, BitVec.setWidth_eq]

theorem withPair_packPair {w : Nat} (x y : BitVec w) (f : BitVec w → BitVec w → Instr) :
    withPair w (packPair x y) f = .instr (f x y) := by
  have hx := x.isLt
  have hfits : packPair x y < 2 ^ (w + w) := by
    have hy : y.toNat + 1 ≤ 2 ^ w := y.isLt
    calc x.toNat + 2 ^ w * y.toNat
      _ < 2 ^ w * (y.toNat + 1) := by rw [Nat.mul_add]; omega
      _ ≤ 2 ^ w * 2 ^ w := Nat.mul_le_mul_left _ hy
      _ = 2 ^ (w + w) := (Nat.pow_add 2 w w).symm
  have hlow : BitVec.ofNat w (packPair x y) = x :=
    BitVec.eq_of_toNat_eq (by rw [BitVec.toNat_ofNat, packPair, Nat.add_mul_mod_self_left, Nat.mod_eq_of_lt hx])
  have hhigh : packPair x y / 2 ^ w = y.toNat := by
    rw [packPair, Nat.add_mul_div_left _ _ (Nat.two_pow_pos w), Nat.div_eq_of_lt hx, Nat.zero_add]
  rw [withPair, if_pos hfits, hlow, hhigh, BitVec.ofNat_toNat, BitVec.setWidth_eq]

theorem withVoice_val (n : VoiceId) (f : VoiceId → Instr) : withVoice n.val f = .instr (f n) := by
  rw [withVoice, dif_pos n.isLt]

theorem withVoiceStep_packed (n : VoiceId) {step : BitVec 15} (hstep : step.toNat ≤ 0x4000)
    (f : VoiceId → BitVec 15 → Instr) : withVoiceStep (n.val + 32 * step.toNat) f = .instr (f n step) := by
  have hn := n.isLt
  have hvoice : (n.val + 32 * step.toNat) % 32 = n.val := by omega
  have hdiv : (n.val + 32 * step.toNat) / 32 = step.toNat := by omega
  simp [withVoiceStep, hvoice, hdiv, hstep]

/-! ### The selector (R110) -/

theorem presented_kind {kind : Nat} (hk : kind < 16) (off : Offset) (operand : Nat) :
    (presented kind off.toNat operand).selector.toNat / 0x1000 = kind := by
  have hoff := off.isLt
  simp only [presented, BitVec.toNat_ofNat]
  omega

theorem presented_offset (kind : Nat) (off : Offset) (operand : Nat) :
    (presented kind off.toNat operand).selector.extractLsb' 0 12 = off := by
  refine BitVec.eq_of_toNat_eq ?_
  have hoff := off.isLt
  simp only [presented, BitVec.extractLsb'_toNat, BitVec.toNat_ofNat, Nat.shiftRight_zero]
  omega

/-- What a transaction of a kind is read as, from its offset and operand: the cases of `decode` (R111). -/
def decodeKind (kind : Nat) (off : Offset) (operand : Nat) : Decoded :=
  match kind with
  | 0x0 => decodeRd16 off operand
  | 0x1 => decodeWr16 off operand
  | 0x2 => withNone operand (.rd8 off)
  | 0x3 => withBits 8 operand (.wr8 off)
  | 0x4 => withNone operand (.rd32 off)
  | 0x5 => withBits 32 operand (.wr32 off)
  | 0x8 => atEntry off (withNone operand .dmaRd)
  | 0x9 => atEntry off (withBits 32 operand .dmaWr)
  | 0xA => atEntry off (.instr (.tick operand))
  | 0xB => atEntry off (withPair 16 operand .cdPush)
  | 0xE => decodeInt off operand
  | 0xF => atEntry off (withNone operand .reset)
  | k => .rejected (.unusedKind k)

theorem decode_eq_decodeKind (t : Transaction) :
    decode t = decodeKind (t.selector.toNat / 0x1000) (t.selector.extractLsb' 0 12) t.operand := rfl

theorem decode_presented {kind : Nat} (hk : kind < 16) (off : Offset) (operand : Nat) :
    decode (presented kind off.toNat operand) = decodeKind kind off operand := by
  rw [decode_eq_decodeKind, presented_kind hk, presented_offset]
  rfl

/-! ### Half-word accesses (R112 to R115, R126) -/

theorem toNat_ofNat_offset (r : Reg) : (BitVec.ofNat 12 r.offset).toNat = r.offset := by
  obtain ⟨_, hlt, _⟩ := r.offset_range
  rw [BitVec.toNat_ofNat]
  omega

theorem decode_rd16Of (r : Reg) : decode (presented 0 r.offset 0) = .instr (rd16Of r) := by
  have h := decode_presented (kind := 0) (by decide) (BitVec.ofNat 12 r.offset) 0
  rw [toNat_ofNat_offset] at h
  simp only [h, decodeKind, decodeRd16, regAt_offset, withNone_zero]

theorem decode_wr16Of (r : Reg) (v : Half) : decode (presented 1 r.offset v.toNat) = .instr (wr16Of r v) := by
  have h := decode_presented (kind := 1) (by decide) (BitVec.ofNat 12 r.offset) v.toNat
  rw [toNat_ofNat_offset] at h
  simp only [h, decodeKind, decodeWr16, regAt_offset, withBits_toNat]

/-- A half-word read of an offset without a register stands for the table's row of that offset. -/
theorem decode_rd16Other {off : Offset} {i : Instr} (hreg : regAt off = none) (hi : rd16Other off = some i) :
    decode (presented 0 off.toNat 0) = .instr i := by
  simp only [decode_presented (by decide : 0 < 16), decodeKind, decodeRd16, hreg, hi, withNone_zero]

theorem decode_wr16Other {off : Offset} {f : Half → Instr} (hreg : regAt off = none) (hf : wr16Other off = some f)
    (v : Half) : decode (presented 1 off.toNat v.toNat) = .instr (f v) := by
  simp only [decode_presented (by decide : 1 < 16), decodeKind, decodeWr16, hreg, hf, withBits_toNat]

theorem toNat_odd {off : Offset} (h : offsetIsOdd off = true) : off.toNat % 2 = 1 := of_decide_eq_true h

theorem toNat_tail {off : Offset} (h : offsetInTail off = true) : 0xE00 ≤ off.toNat ∧ off.toNat % 2 = 0 := by
  simp only [offsetInTail, Bool.and_eq_true, decide_eq_true_eq] at h
  exact ⟨h.1.1, h.2⟩

theorem regAt_of_odd {off : Offset} (h : offsetIsOdd off = true) : regAt off = none :=
  regAt_eq_none_of_not_range (.inr (.inr (toNat_odd h)))

theorem regAt_of_tail {off : Offset} (h : offsetInTail off = true) : regAt off = none :=
  regAt_eq_none_of_not_range (.inr (.inl (toNat_tail h).1))

theorem offsetIsOdd_of_tail {off : Offset} (h : offsetInTail off = true) : offsetIsOdd off = false := by
  obtain ⟨_, heven⟩ := toNat_tail h
  simp [offsetIsOdd, heven]

theorem rd16Other_of_tail {off : Offset} (h : offsetInTail off = true) : rd16Other off = some (.rd16UnrecE00 off) := by
  simp [rd16Other, offsetIsOdd_of_tail h, h]

theorem wr16Other_of_tail {off : Offset} (h : offsetInTail off = true) : wr16Other off = some (.wr16UnrecE00 off) := by
  simp [wr16Other, offsetIsOdd_of_tail h, h]

/-! ### Micro-operations (R111) -/

theorem decode_presented_int (op : Offset) (operand : Nat) :
    decode (presented 0xE op.toNat operand) = decodeInt op operand := decode_presented (by decide) op operand

/-- A micro-operation numbered `op` that takes a voice. -/
theorem decode_voiceOp (op : Offset) (n : VoiceId) {f : VoiceId → Instr} (hop : decodeInt op n.val = withVoice n.val f) :
    decode (presented 0xE op.toNat n.val) = .instr (f n) :=
  (decode_presented_int op n.val).trans (hop.trans (withVoice_val n f))

/-- A micro-operation numbered `op` that takes two values. -/
theorem decode_pairOp {w : Nat} (op : Offset) (x y : BitVec w) {f : BitVec w → BitVec w → Instr}
    (hop : decodeInt op (packPair x y) = withPair w (packPair x y) f) :
    decode (presented 0xE op.toNat (packPair x y)) = .instr (f x y) :=
  (decode_presented_int op _).trans (hop.trans (withPair_packPair x y f))

/-- Settles O1: the register map gives back the register of an offset, the rows without a register lie where the map has none,
and every operand form gives back what was packed. -/
theorem decodeOfEncode : Obligations.DecodeOfEncode := by
  unfold Obligations.DecodeOfEncode
  intro i hwf
  cases i
  case rd16VolL | rd16VolR | rd16Pitch | rd16Start | rd16AdsrLo | rd16AdsrHi | rd16Env | rd16Repeat
      | rd16MvolL | rd16MvolR | rd16VLOUT | rd16VROUT | rd16KonLo | rd16KonHi | rd16KoffLo | rd16KoffHi
      | rd16PmonLo | rd16PmonHi | rd16NonLo | rd16NonHi | rd16EonLo | rd16EonHi | rd16EndxLo | rd16EndxHi
      | rd16Mbase | rd16IrqAddr | rd16XferAddr | rd16XferPort | rd16Spucnt | rd16Spustat | rd16CdvolL | rd16CdvolR
      | rd16ExtvolL | rd16ExtvolR
      | rd16DAPF1 | rd16DAPF2 | rd16VIIR | rd16VCOMB1 | rd16VCOMB2 | rd16VCOMB3 | rd16VCOMB4 | rd16VWALL
      | rd16VAPF1 | rd16VAPF2 | rd16MLSAME | rd16MRSAME | rd16MLCOMB1 | rd16MRCOMB1 | rd16MLCOMB2 | rd16MRCOMB2
      | rd16DLSAME | rd16DRSAME | rd16MLDIFF | rd16MRDIFF | rd16MLCOMB3 | rd16MRCOMB3 | rd16MLCOMB4 | rd16MRCOMB4
      | rd16DLDIFF | rd16DRDIFF | rd16MLAPF1 | rd16MRAPF1 | rd16MLAPF2 | rd16MRAPF2 | rd16VLIN | rd16VRIN =>
    exact decode_rd16Of _
  case wr16VolL | wr16VolR | wr16Pitch | wr16Start | wr16AdsrLo | wr16AdsrHi | wr16Env | wr16Repeat
      | wr16MvolL | wr16MvolR | wr16VLOUT | wr16VROUT | wr16KonLo | wr16KonHi | wr16KoffLo | wr16KoffHi
      | wr16PmonLo | wr16PmonHi | wr16NonLo | wr16NonHi | wr16EonLo | wr16EonHi | wr16EndxLo | wr16EndxHi
      | wr16Mbase | wr16IrqAddr | wr16XferAddr | wr16XferPort | wr16Spucnt | wr16Spustat | wr16CdvolL | wr16CdvolR
      | wr16ExtvolL | wr16ExtvolR
      | wr16DAPF1 | wr16DAPF2 | wr16VIIR | wr16VCOMB1 | wr16VCOMB2 | wr16VCOMB3 | wr16VCOMB4 | wr16VWALL
      | wr16VAPF1 | wr16VAPF2 | wr16MLSAME | wr16MRSAME | wr16MLCOMB1 | wr16MRCOMB1 | wr16MLCOMB2 | wr16MRCOMB2
      | wr16DLSAME | wr16DRSAME | wr16MLDIFF | wr16MRDIFF | wr16MLCOMB3 | wr16MRCOMB3 | wr16MLCOMB4 | wr16MRCOMB4
      | wr16DLDIFF | wr16DRDIFF | wr16MLAPF1 | wr16MRAPF1 | wr16MLAPF2 | wr16MRAPF2 | wr16VLIN | wr16VRIN =>
    exact decode_wr16Of _ _
  case rd16UnrecDA0 | rd16UnrecDAC | rd16UnrecDB8 | rd16UnrecDBA | rd16UnrecDBC | rd16UnrecDBE => rfl
  case wr16UnrecDA0 v => exact decode_wr16Other (off := 0xDA0) rfl rfl v
  case wr16UnrecDAC v => exact decode_wr16Other (off := 0xDAC) rfl rfl v
  case wr16UnrecDB8 v => exact decode_wr16Other (off := 0xDB8) rfl rfl v
  case wr16UnrecDBA v => exact decode_wr16Other (off := 0xDBA) rfl rfl v
  case wr16UnrecDBC v => exact decode_wr16Other (off := 0xDBC) rfl rfl v
  case wr16UnrecDBE v => exact decode_wr16Other (off := 0xDBE) rfl rfl v
  case rd16UnrecE00 off => exact decode_rd16Other (regAt_of_tail hwf) (rd16Other_of_tail hwf)
  case rd16Misaligned off => exact decode_rd16Other (regAt_of_odd hwf) (if_pos hwf)
  case wr16UnrecE00 off v => exact decode_wr16Other (regAt_of_tail hwf) (wr16Other_of_tail hwf) v
  case wr16Misaligned off v => exact decode_wr16Other (regAt_of_odd hwf) (if_pos hwf) v
  case rd8 off => exact decode_presented (kind := 0x2) (by decide) off 0
  case wr8 off b => exact (decode_presented (kind := 0x3) (by decide) off b.toNat).trans (withBits_toNat b _)
  case rd32 off => exact decode_presented (kind := 0x4) (by decide) off 0
  case wr32 off w => exact (decode_presented (kind := 0x5) (by decide) off w.toNat).trans (withBits_toNat w _)
  case dmaRd => exact decode_presented (kind := 0x8) (by decide) 0 0
  case dmaWr w => exact (decode_presented (kind := 0x9) (by decide) 0 w.toNat).trans (withBits_toNat w _)
  case tick cycles => exact decode_presented (kind := 0xA) (by decide) 0 cycles
  case cdPush l r => exact (decode_presented (kind := 0xB) (by decide) 0 (packPair l r)).trans (withPair_packPair l r _)
  case reset => exact decode_presented (kind := 0xF) (by decide) 0 0
  case intKeyOn n => exact decode_voiceOp 0x01 n rfl
  case intKeyOff n => exact decode_voiceOp 0x02 n rfl
  case intVoiceStep n => exact decode_voiceOp 0x03 n rfl
  case intDecodeBlock n => exact decode_voiceOp 0x04 n rfl
  case intInterpolate n => exact decode_voiceOp 0x05 n rfl
  case intEffectiveStep n => exact decode_voiceOp 0x06 n rfl
  case intPitchAdvance n step =>
    exact (decode_presented_int 0x07 _).trans (withVoiceStep_packed n (of_decide_eq_true hwf) _)
  case intAdsrTick n => exact decode_voiceOp 0x08 n rfl
  case intMixStep => exact decode_presented_int 0x10 0
  case intKeyLatch => exact decode_presented_int 0x11 0
  case intCaptureWrite cl cr => exact decode_pairOp 0x12 cl cr rfl
  case intFinalMix dryL dryR => exact decode_pairOp 0x13 dryL dryR rfl
  case intOutputAppend outL outR => exact decode_pairOp 0x14 outL outR rfl
  case intReverb inL inR => exact decode_pairOp 0x20 inL inR rfl

end Sys2Proof
end

section
/-! PROOFS. Encoding what was decoded (spec/30_encoding.md R110 to R126): every part of the decoder answers only transactions whose
encoding has the kind, the offset and the operand it was given, so that no bit of the presented words is dropped. -/

namespace Sys2Proof

open Sys2Proof.Machine

/-- Whatever instruction `d` answers is presented as this kind, offset and operand. -/
def Decoded.EncodesTo (d : Decoded) (kind off operand : Nat) : Prop :=
  ∀ i : Instr, d = .instr i → encode i = presented kind off operand

theorem Decoded.encodesTo_instr {i : Instr} {kind off operand : Nat} (h : encode i = presented kind off operand) :
    (Decoded.instr i).EncodesTo kind off operand := by
  rintro _ ⟨⟩
  exact h

theorem Decoded.encodesTo_rejected (e : DecodeError) (kind off operand : Nat) :
    (Decoded.rejected e).EncodesTo kind off operand := by
  rintro _ ⟨⟩

/-! ### The operand forms drop nothing (R111) -/

section

variable {kind off : Nat} (operand : Nat)

theorem withNone_encodesTo {i : Instr} (h : encode i = presented kind off 0) :
    (withNone operand i).EncodesTo kind off operand := by
  unfold withNone
  split
  next h0 =>
    rw [h0]
    exact Decoded.encodesTo_instr h
  next => exact Decoded.encodesTo_rejected _ _ _ _

theorem withBits_encodesTo {w : Nat} {f : BitVec w → Instr} (h : ∀ v, encode (f v) = presented kind off v.toNat) :
    (withBits w operand f).EncodesTo kind off operand := by
  unfold withBits
  split
  next hfits =>
    refine Decoded.encodesTo_instr ?_
    rw [h, BitVec.toNat_ofNat, Nat.mod_eq_of_lt hfits]
  next => exact Decoded.encodesTo_rejected _ _ _ _

/-- The two halves of an operand that fits, packed again, are the operand. -/
theorem packPair_halves {w : Nat} {operand : Nat} (h : operand < 2 ^ (w + w)) :
    packPair (BitVec.ofNat w operand) (BitVec.ofNat w (operand / 2 ^ w)) = operand := by
  have hhigh : operand / 2 ^ w < 2 ^ w := Nat.div_lt_of_lt_mul (by rwa [← Nat.pow_add])
  rw [packPair, BitVec.toNat_ofNat, BitVec.toNat_ofNat, Nat.mod_eq_of_lt hhigh, Nat.mod_add_div]

theorem withPair_encodesTo {w : Nat} {f : BitVec w → BitVec w → Instr}
    (h : ∀ x y, encode (f x y) = presented kind off (packPair x y)) :
    (withPair w operand f).EncodesTo kind off operand := by
  unfold withPair
  split
  next hfits =>
    refine Decoded.encodesTo_instr ?_
    rw [h, packPair_halves hfits]
  next => exact Decoded.encodesTo_rejected _ _ _ _

theorem withVoice_encodesTo {f : VoiceId → Instr} (h : ∀ n, encode (f n) = presented kind off n.val) :
    (withVoice operand f).EncodesTo kind off operand := by
  unfold withVoice
  split
  · exact Decoded.encodesTo_instr (h _)
  · exact Decoded.encodesTo_rejected _ _ _ _

theorem withVoiceStep_encodesTo {f : VoiceId → BitVec 15 → Instr}
    (h : ∀ n step, encode (f n step) = presented kind off (n.val + 32 * step.toNat)) :
    (withVoiceStep operand f).EncodesTo kind off operand := by
  unfold withVoiceStep
  split
  · split
    next hcap =>
      have hstep : operand / 32 % 2 ^ 15 = operand / 32 := by omega
      refine Decoded.encodesTo_instr ((h _ _).trans ?_)
      rw [BitVec.toNat_ofNat, hstep, Nat.mod_add_div]
    next => exact Decoded.encodesTo_rejected _ _ _ _
  · exact Decoded.encodesTo_rejected _ _ _ _

theorem atEntry_encodesTo {off : Offset} {d : Decoded} (h : d.EncodesTo kind 0 operand) :
    (atEntry off d).EncodesTo kind off.toNat operand := by
  unfold atEntry
  split
  next h0 =>
    rw [h0]
    exact h
  next => exact Decoded.encodesTo_rejected _ _ _ _

end

/-! ### Half-word accesses (R126, R150) -/

theorem encode_rd16Of (r : Reg) : encode (rd16Of r) = presented 0 r.offset 0 := by
  cases r
  case voice r n => cases r <;> rfl
  all_goals rfl

theorem encode_wr16Of (r : Reg) (v : Half) : encode (wr16Of r v) = presented 1 r.offset v.toNat := by
  cases r
  case voice r n => cases r <;> rfl
  all_goals rfl

theorem encode_unrecRd16 : ∀ c ∈ unrecRd16, encode c.2 = presented 0 c.1 0 := by
  simp [unrecRd16, encode]

theorem encode_unrecWr16 (v : Half) : ∀ c ∈ unrecWr16, encode (c.2 v) = presented 1 c.1 v.toNat := by
  simp [unrecWr16, encode]

theorem encode_rd16Other {off : Offset} {i : Instr} (h : rd16Other off = some i) :
    encode i = presented 0 off.toNat 0 := by
  unfold rd16Other at h
  split at h
  · cases h
    rfl
  · split at h
    · cases h
      rfl
    · exact encode_unrecRd16 _ (mem_of_lookupOffset h)

theorem encode_wr16Other {off : Offset} {f : Half → Instr} (h : wr16Other off = some f) (v : Half) :
    encode (f v) = presented 1 off.toNat v.toNat := by
  unfold wr16Other at h
  split at h
  · cases h
    rfl
  · split at h
    · cases h
      rfl
    · exact encode_unrecWr16 v _ (mem_of_lookupOffset h)

theorem decodeRd16_encodesTo (off : Offset) (operand : Nat) : (decodeRd16 off operand).EncodesTo 0 off.toNat operand := by
  unfold decodeRd16
  split
  next r hr =>
    rw [offset_of_regAt hr]
    exact withNone_encodesTo _ (encode_rd16Of r)
  next =>
    split
    next hi => exact withNone_encodesTo _ (encode_rd16Other hi)
    next => exact Decoded.encodesTo_rejected _ _ _ _

theorem decodeWr16_encodesTo (off : Offset) (operand : Nat) : (decodeWr16 off operand).EncodesTo 1 off.toNat operand := by
  unfold decodeWr16
  split
  next r hr =>
    rw [offset_of_regAt hr]
    exact withBits_encodesTo _ (encode_wr16Of r)
  next =>
    split
    next hf => exact withBits_encodesTo _ (encode_wr16Other hf)
    next => exact Decoded.encodesTo_rejected _ _ _ _

/-! ### The kinds (R111) -/

theorem decodeInt_encodesTo (off : Offset) (operand : Nat) : (decodeInt off operand).EncodesTo 0xE off.toNat operand := by
  unfold decodeInt
  split
  case h_7 hop =>
    rw [hop]
    exact withVoiceStep_encodesTo _ fun _ _ => rfl
  case h_9 hop | h_10 hop =>
    rw [hop]
    exact withNone_encodesTo _ rfl
  case h_11 hop | h_12 hop | h_13 hop | h_14 hop =>
    rw [hop]
    exact withPair_encodesTo _ fun _ _ => rfl
  case h_15 => exact Decoded.encodesTo_rejected _ _ _ _
  case h_1 hop | h_2 hop | h_3 hop | h_4 hop | h_5 hop | h_6 hop | h_8 hop =>
    rw [hop]
    exact withVoice_encodesTo _ fun _ => rfl

theorem decodeKind_encodesTo (kind : Nat) (off : Offset) (operand : Nat) :
    (decodeKind kind off operand).EncodesTo kind off.toNat operand := by
  unfold decodeKind
  split
  · exact decodeRd16_encodesTo _ _
  · exact decodeWr16_encodesTo _ _
  · exact withNone_encodesTo _ rfl
  · exact withBits_encodesTo _ fun _ => rfl
  · exact withNone_encodesTo _ rfl
  · exact withBits_encodesTo _ fun _ => rfl
  · exact atEntry_encodesTo _ (withNone_encodesTo _ rfl)
  · exact atEntry_encodesTo _ (withBits_encodesTo _ fun _ => rfl)
  · exact atEntry_encodesTo _ (Decoded.encodesTo_instr rfl)
  · exact atEntry_encodesTo _ (withPair_encodesTo _ fun _ _ => rfl)
  · exact decodeInt_encodesTo _ _
  · exact atEntry_encodesTo _ (withNone_encodesTo _ rfl)
  · exact Decoded.encodesTo_rejected _ _ _ _

/-- A selector is its kind and its offset (R110). -/
theorem presented_selector (t : Transaction) :
    presented (t.selector.toNat / 0x1000) (t.selector.extractLsb' 0 12).toNat t.operand = t := by
  have hsel : t.selector.toNat / 0x1000 * 0x1000 + (t.selector.extractLsb' 0 12).toNat = t.selector.toNat := by
    simp only [BitVec.extractLsb'_toNat, Nat.shiftRight_zero]
    omega
  rw [presented, hsel, BitVec.ofNat_toNat, BitVec.setWidth_eq]

/-- Settles O2: the decoder answers transactions of the opcode table alone, presented as the words they were read from. -/
theorem encodeOfDecode : Obligations.EncodeOfDecode := by
  unfold Obligations.EncodeOfDecode
  intro t i h
  exact ⟨decode_wellFormed t i h, (decodeKind_encodesTo _ _ _ i h).trans (presented_selector t)⟩

/-- Settles O3: each of the words is the encoding of its transaction. -/
theorem exampleWordsDecode : Obligations.ExampleWordsDecode :=
  ⟨decodeOfEncode (.rd16Pitch 3) rfl, decodeOfEncode (.wr16VolL 0 0x3FFF) rfl, decodeOfEncode (.wr16VolR 1 0xC000) rfl,
    decodeOfEncode (.wr16Mbase 0xF000) rfl, decodeOfEncode (.wr16VCOMB1 0x4000) rfl, decodeOfEncode (.rd8 0xDAE) rfl,
    decodeOfEncode (.wr8 0xDAA 0x20) rfl, decodeOfEncode (.rd32 0xD9C) rfl, decodeOfEncode (.wr32 0xD88 0x00800001) rfl,
    decodeOfEncode .dmaRd rfl, decodeOfEncode (.dmaWr 0xAABBCCDD) rfl, decodeOfEncode (.tick 0x700) rfl,
    decodeOfEncode .intMixStep rfl, decodeOfEncode .reset rfl⟩

end Sys2Proof
end

section
/-! PROOFS. The accesses of registers and of offsets without one, by an unfaulted block (spec/40_register_file.md R150 to R156, R165,
R184, R185, R191): what a half-word access answers, said once, and the accesses of other sizes composed from it. -/

namespace Sys2Proof.Machine

open Sys2Proof Sys2Proof.Safety

/-! ### Half-word accesses of a register (R150) -/

theorem exec_rd16Of (r : Reg) (s : State) : exec (rd16Of r) s = .next (transact (readHalf Config.params r) s) := by
  cases r
  case voice r n => cases r <;> rfl
  all_goals rfl

theorem exec_wr16Of (r : Reg) (v : Half) (s : State) :
    exec (wr16Of r v) s = .next (transact (fun s => writeReg v s r) s) := by
  cases r
  case voice r n => cases r <;> rfl
  all_goals rfl

/-- What a register reads does not depend on the result of the transaction before. -/
theorem readReg_returning (x : Result) (s : State) (r : Reg) : readReg (returning x s) r = readReg s r := by
  cases r <;> rfl

theorem readAt_returning (x : Result) (s : State) (off : Offset) : readAt (returning x s) off = readAt s off := by
  unfold readAt
  cases regAt off with
  | none => rfl
  | some r => exact readReg_returning x s r

theorem exec_rd16Of_of_readReg {s : State} (he : NoError s) {r : Reg} {w : Half} (hr : readReg s r = some w) :
    exec (rd16Of r) s = .next (returning (.half w) s) := by
  rw [exec_rd16Of, transact_of_noError _ he]
  simp only [readHalf, readReg_returning, hr, returning_returning]

theorem exec_wr16Of_of_noError {s : State} (he : NoError s) (r : Reg) (v : Half) :
    exec (wr16Of r v) s = .next (writeReg v (returning .none s) r) := by
  rw [exec_wr16Of, transact_of_noError _ he]

/-! ### The unimplemented-register condition (R155) -/

/-- The condition, met by an unfaulted block, in the words of the statements. -/
theorem unimplemented_returning (kind : AccessKind) (off : Offset) (zero : Result) (s : State) :
    unimplemented Config.params kind off zero (returning .none s) = Unrecognised kind off zero s := by
  unfold Unrecognised
  split
  next h => exact unimplemented_strict (p := Config.params) h _ _ _ _
  next h => exact unimplemented_lenient (p := Config.params) (Bool.eq_false_of_not_eq_true h) _ _ _ _

theorem transact_unimplemented {s : State} (he : NoError s) (kind : AccessKind) (off : Offset) (zero : Result) :
    transact (unimplemented Config.params kind off zero) s = Unrecognised kind off zero s := by
  rw [transact_of_noError _ he, unimplemented_returning]

/-- The condition leaves a mark that no answer leaves: the error, or one more event. -/
theorem unrecognised_ne_returning {s : State} (he : NoError s) (kind : AccessKind) (off : Offset) (zero r : Result) :
    Unrecognised kind off zero s ≠ returning r s := by
  unfold Unrecognised
  split
  · intro h
    have hfault : some _ = s.fault := congrArg State.fault h
    rw [he] at hfault
    cases hfault
  · intro h
    have htrace : s.trace ++ [_] = s.trace := congrArg State.trace h
    simp at htrace

theorem exec_rd16Of_xferPort {s : State} (he : NoError s) :
    exec (rd16Of .xferPort) s = .next (Unrecognised .rd16 0xDA8 (.half 0) s) := by
  rw [exec_rd16Of, ← transact_unimplemented he]
  rfl

/-- Settles O24: each of the accesses is the unimplemented-register condition of its kind and offset. -/
theorem unrecognisedAccesses : Obligations.UnrecognisedAccesses := by
  unfold Obligations.UnrecognisedAccesses
  intro off v b s he
  have hnext (kind : AccessKind) (o : Offset) (zero : Result) :
      (.next (transact (unimplemented Config.params kind o zero) s) : Host.Outcome State Fault Refusal) =
        .next (Unrecognised kind o zero s) := by rw [transact_unimplemented he]
  exact ⟨hnext _ _ _, hnext _ _ _, hnext _ _ _, hnext _ _ _, hnext _ _ _, hnext _ _ _, hnext _ _ _, hnext _ _ _,
    exec_rd16Of_xferPort he, hnext _ _ _, hnext _ _ _, hnext _ _ _, hnext _ _ _, hnext _ _ _, hnext _ _ _, hnext _ _ _,
    hnext _ _ _, hnext _ _ _, fun _ _ => rfl⟩

/-! ### Single registers (R165, R184, R185, R191) -/

/-- Settles O12: the read is a register read; the write tests bit 13 before it stores. -/
theorem adsrHiRegister : Obligations.AdsrHiRegister := by
  unfold Obligations.AdsrHiRegister
  intro n v s he
  have hwrite := exec_wr16Of_of_noError he (.voice .adsrHi n) v
  refine ⟨exec_rd16Of_of_readReg he (r := .voice .adsrHi n) rfl, fun h13 => hwrite.trans ?_,
    fun h13 => ⟨hwrite.trans ?_, rfl⟩⟩
  · simp only [writeReg, writeVoiceReg, adsrReserved, h13, Bool.false_eq_true, if_false, returning_voice]
  · simp only [writeReg, writeVoiceReg, adsrReserved, h13, if_true]
    rfl

theorem maskLo_eq_setWidth (m : Mask) : maskLo m = m.setWidth 16 := by
  refine BitVec.eq_of_toNat_eq ?_
  simp [maskLo]

theorem maskHi_eq_setWidth (m : Mask) : maskHi m = (m >>> 16).setWidth 16 := by
  have hm := m.isLt
  refine BitVec.eq_of_toNat_eq ?_
  simp only [maskHi, BitVec.toNat_setWidth, BitVec.extractLsb'_toNat, BitVec.toNat_ushiftRight,
    Nat.shiftRight_eq_div_pow]
  omega

/-- The status register as a number: the pending flag at bit 6, control bits 5:0 below it (R118). -/
theorem spustat_eq (irqFlag : Bool) (spucnt : Half) :
    spustat irqFlag spucnt = BitVec.ofNat 16 ((if irqFlag then 0x40 else 0) + spucnt.toNat % 0x40) := by
  have hlow : spucnt.toNat % 0x40 < 2 ^ 6 := Nat.mod_lt _ (by decide)
  refine BitVec.eq_of_toNat_eq ?_
  simp only [spustat, BitVec.toNat_setWidth, BitVec.toNat_append, BitVec.extractLsb'_toNat, BitVec.toNat_ofNat,
    Nat.shiftRight_zero, BitVec.toNat_ofBool]
  rw [← Nat.shiftLeft_add_eq_or_of_lt hlow]
  cases irqFlag <;> rfl

/-- Settles O16: the reads are register reads, and a write of these registers leaves the state. -/
theorem readOnlyRegisters : Obligations.ReadOnlyRegisters := by
  unfold Obligations.ReadOnlyRegisters
  intro v s he
  refine ⟨?_, ?_, ?_, exec_wr16Of_of_noError he .endxLo v, exec_wr16Of_of_noError he .endxHi v,
    exec_wr16Of_of_noError he .spustat v⟩
  · rw [← maskLo_eq_setWidth]
    exact exec_rd16Of_of_readReg he (r := .endxLo) rfl
  · rw [← maskHi_eq_setWidth]
    exact exec_rd16Of_of_readReg he (r := .endxHi) rfl
  · rw [← spustat_eq]
    exact exec_rd16Of_of_readReg he (r := .spustat) rfl

/-! ### Reads of a byte and of a word (R151, R152) -/

/-- The value that the half-word read of an offset returns (R126, R150). -/
theorem readAt_eq_some_iff {s : State} (he : NoError s) {off : Offset} {w : Half} :
    readAt s off = some w ↔ ∃ r, regAt off = some r ∧ exec (rd16Of r) s = .next (returning (.half w) s) := by
  unfold readAt
  cases regAt off with
  | none => simp
  | some r =>
    simp only [Option.some.injEq, exists_eq_left']
    refine ⟨exec_rd16Of_of_readReg he, fun hexec => ?_⟩
    cases hr : readReg s r with
    | none =>
      rw [readReg_eq_none_iff.mp hr, exec_rd16Of_xferPort he] at hexec
      exact absurd (Host.Outcome.next.inj hexec) (unrecognised_ne_returning he _ _ _ _)
    | some w' =>
      rw [exec_rd16Of_of_readReg he hr] at hexec
      have hresult : Result.half w' = .half w := congrArg State.result (Host.Outcome.next.inj hexec)
      cases hresult
      rfl

theorem exec_rd8 {s : State} (he : NoError s) (off : Offset) :
    exec (.rd8 off) s = .next (readByteAt Config.params off (returning .none s)) :=
  congrArg _ (transact_of_noError _ he)

theorem exec_rd32 {s : State} (he : NoError s) (off : Offset) :
    exec (.rd32 off) s = .next (readWordAt Config.params off (returning .none s)) :=
  congrArg _ (transact_of_noError _ he)

/-- An odd offset selects the high byte (R151). -/
theorem byteAt_eq (off : Offset) (w : Half) : byteAt off w = if off.getLsbD 0 then hiByte w else loByte w := by
  simp [byteAt, BitVec.getLsbD, Nat.testBit_zero]

theorem readByteAt_of_some {s : State} {off : Offset} {w : Half} (h : readAt s (evenOffset off) = some w) (p : Params) :
    readByteAt p off s = returning (.byte (byteAt off w)) s := by
  simp only [readByteAt, h]

theorem readByteAt_of_none {s : State} {off : Offset} (h : readAt s (evenOffset off) = none) (p : Params) :
    readByteAt p off s = unimplemented p .rd8 off (.byte 0) s := by
  simp only [readByteAt, h]

theorem readWordAt_of_some {s : State} {off : Offset} {lo hi : Half} (h4 : off.toNat % 4 = 0)
    (hlo : readAt s off = some lo) (hhi : readAt s (off + 2) = some hi) (p : Params) :
    readWordAt p off s = returning (.word (mkWord hi lo)) s := by
  simp only [readWordAt, h4, hlo, hhi, if_true]

theorem readWordAt_of_not {s : State} {off : Offset}
    (h : off.toNat % 4 ≠ 0 ∨ readAt s off = none ∨ readAt s (off + 2) = none) (p : Params) :
    readWordAt p off s = unimplemented p .rd32 off (.word 0) s := by
  unfold readWordAt
  split
  next h4 =>
    split
    next hlo hhi => simp only [h4, hlo, hhi, ne_eq, not_true, reduceCtorEq, or_self] at h
    next => rfl
  next => rfl

/-- Settles O25: the byte and the word are those of the half-word reads, and without a half the access is unrecognised. -/
theorem sizedReads : Obligations.SizedReads := by
  unfold Obligations.SizedReads
  intro off s he
  refine ⟨fun w => readAt_eq_some_iff he, fun w hw => ?_, fun hnone => ?_, fun lo hi h4 hlo hhi => ?_, fun hnot => ?_⟩
  · rw [exec_rd8 he, readByteAt_of_some ((readAt_returning _ _ _).trans hw), byteAt_eq, returning_returning]
  · rw [exec_rd8 he, readByteAt_of_none ((readAt_returning _ _ _).trans hnone), unimplemented_returning]
  · rw [exec_rd32 he, readWordAt_of_some h4 ((readAt_returning _ _ _).trans hlo) ((readAt_returning _ _ _).trans hhi),
      returning_returning]
    rfl
  · rw [exec_rd32 he, readWordAt_of_not (by simpa only [readAt_returning] using hnot), unimplemented_returning]

/-! ### The word write (R153) -/

theorem exec_wr32 {s : State} (he : NoError s) (off : Offset) (w : Word) :
    exec (.wr32 off w) s = .next (writeWordAt Config.params off w (returning .none s)) :=
  congrArg _ (transact_of_noError _ he)

theorem writeWordAt_of_some {off : Offset} {r0 r1 : Reg} (h4 : off.toNat % 4 = 0) (h0 : regAt off = some r0)
    (h1 : regAt (off + 2) = some r1) (p : Params) (w : Word) (s : State) :
    writeWordAt p off w s =
      if faulted (writeReg (wordLo w) s r0) then writeReg (wordLo w) s r0
      else writeReg (wordHi w) (writeReg (wordLo w) s r0) r1 := by
  simp only [writeWordAt, h4, h0, h1, if_true]

theorem writeWordAt_of_not {off : Offset} (h : off.toNat % 4 ≠ 0 ∨ regAt off = none ∨ regAt (off + 2) = none) (p : Params)
    (w : Word) (s : State) : writeWordAt p off w s = unimplemented p .wr32 off .none s := by
  unfold writeWordAt
  split
  next h4 =>
    split
    next h0 h1 => simp only [h4, h0, h1, ne_eq, not_true, reduceCtorEq, or_self] at h
    next => rfl
  next => rfl

/-- A half-word write answers nothing, so the next one starts from the state it leaves. -/
theorem returning_writeReg (v : Half) (r : Reg) (s : State) :
    returning .none (writeReg v (returning .none s) r) = writeReg v (returning .none s) r := by
  have hresult : (writeReg v (returning .none s) r).result = .none := (writeReg_change v r _).result
  generalize writeReg v (returning .none s) r = t at hresult
  simp only [returning, ← hresult]

/-- Settles O26: the second half-word write starts from what the first leaves, unless that faulted. -/
theorem sizedWrite : Obligations.SizedWrite := by
  unfold Obligations.SizedWrite
  intro off w s he
  refine ⟨fun r0 r1 h4 h0 h1 => ?_, fun hnot => ?_⟩
  · refine ⟨_, _, exec_wr16Of_of_noError he r0 (wordLo w), exec_wr16Of r1 (wordHi w) _, ?_⟩
    rw [exec_wr32 he, writeWordAt_of_some h4 h0 h1]
    congr 1
    split
    next hf => exact (if_pos hf).symm
    next hf =>
      have hne : NoError (writeReg (wordLo w) (returning .none s) r0) := noError_of_not_faulted (by simpa using hf)
      rw [transact_of_noError _ hne, returning_writeReg]
      exact (if_neg hf).symm
  · rw [exec_wr32 he, writeWordAt_of_not hnot, unimplemented_returning]

end Sys2Proof.Machine
end

section
/-! PROOFS. The ADPCM block decode (spec/30_encoding.md R121 to R125, spec/41_voice_adpcm.md R274 to R280): what each of the three
kinds of header makes of the state, and the samples as a recurrence over the two samples before. -/

namespace Sys2Proof.Machine

open Sys2Proof Sys2Proof.Safety

/-! ### The header (R122, R125) -/

theorem hdrShift_eq (hdr : Byte) : hdrShift hdr = hdr.toNat % 0x10 := by
  simp [hdrShift]

theorem hdrFilter_toNat (hdr : Byte) : (hdrFilter hdr).toNat = hdr.toNat / 0x10 % 4 := by
  simp [hdrFilter, Nat.shiftRight_eq_div_pow]

/-- Bit 6 is tested first (R274). -/
theorem decodeBlock_of_bit6 {n : VoiceId} {s : State} (h6 : hdrReserved (memRead1 s (s.voice n).cur.toNat) = true) :
    decodeBlock n s = raise (.adpcmHeaderBit6 n (s.voice n).cur) s := by
  simp only [decodeBlock, h6, if_true]

theorem decodeBlock_of_shift {n : VoiceId} {s : State} (h6 : hdrReserved (memRead1 s (s.voice n).cur.toNat) = false)
    (hshift : 12 < hdrShift (memRead1 s (s.voice n).cur.toNat)) :
    decodeBlock n s = raise (.adpcmShift n (s.voice n).cur) s := by
  simp only [decodeBlock, h6, hshift, Bool.false_eq_true, if_false, if_true]

theorem decodeBlock_of_legal {n : VoiceId} {s : State} (h : LegalHeader (memRead1 s (s.voice n).cur.toNat)) :
    decodeBlock n s = loadBlock n s := by
  rcases decodeBlock_cases n s with ⟨_, heq⟩ | ⟨hillegal, _⟩
  · exact heq
  · exact absurd h hillegal

theorem exec_intDecodeBlock {s : State} (he : NoError s) (n : VoiceId) :
    exec (.intDecodeBlock n) s = .next (decodeBlock n (returning .none s)) := congrArg _ (transact_of_noError _ he)

/-- Settles O37: each reserved encoding raises before anything of the voice is written. -/
theorem decodeBlockReservedHeader : Obligations.DecodeBlockReservedHeader := by
  unfold Obligations.DecodeBlockReservedHeader
  intro n s he block hdr
  refine ⟨fun h6 => ?_, fun h6 hshift => ?_, rfl, rfl⟩
  · rw [exec_intDecodeBlock he, decodeBlock_of_bit6 (s := returning .none s) h6]
    rfl
  · rw [← hdrShift_eq] at hshift
    rw [exec_intDecodeBlock he, decodeBlock_of_shift (s := returning .none s) h6 hshift]
    rfl

/-! ### The samples as a recurrence (R274, R276, R280) -/

/-- The samples a predictor sees: the two before the block, older first, then those of the block. -/
def adpcmTrack (shift : Nat) (f : BitVec 2) (nibs : List (BitVec 4)) (old older : Int) : List Int :=
  older :: old :: (adpcmRun shift f nibs old older).map s16

theorem s16_u16_adpcmSample (shift : Nat) (f : BitVec 2) (old older : Int) (nib : BitVec 4) :
    s16 (u16 (adpcmSample shift f old older nib)) = adpcmSample shift f old older nib := s16_u16_sat16 _

theorem adpcmTrack_cons (shift : Nat) (f : BitVec 2) (nib : BitVec 4) (rest : List (BitVec 4)) (old older : Int) :
    adpcmTrack shift f (nib :: rest) old older =
      older :: adpcmTrack shift f rest (adpcmSample shift f old older nib) old := by
  simp only [adpcmTrack, adpcmRun, List.map_cons, s16_u16_adpcmSample]

/-- Each sample comes from its nibble and the two samples before it on the track. -/
theorem adpcmTrack_step (shift : Nat) (f : BitVec 2) (nibs : List (BitVec 4)) (old older : Int) (i : Nat)
    (hi : i < nibs.length) :
    (adpcmTrack shift f nibs old older).getD (i + 2) 0 =
      adpcmSample shift f ((adpcmTrack shift f nibs old older).getD (i + 1) 0)
        ((adpcmTrack shift f nibs old older).getD i 0) nibs[i] := by
  induction nibs generalizing old older i with
  | nil => cases hi
  | cons nib rest ih =>
    rw [adpcmTrack_cons]
    cases i with
    | zero => rfl
    | succ k => exact ih _ _ k (Nat.lt_of_succ_lt_succ hi)

/-- The track of the block that voice `n` decodes. -/
def blockTrack (s : State) (n : VoiceId) : List Int :=
  let v := s.voice n
  let hdr := memRead1 s v.cur.toNat
  adpcmTrack (hdrShift hdr) (hdrFilter hdr) ((List.range 28).map (blockNibble s v.cur)) (s16 v.buf[27]) (s16 v.buf[26])

theorem getD_map_adpcmRun (s : State) (block : RamAddr) (hdr : Byte) (old older : Int) {i : Nat} (hi : i < 28) :
    ((adpcmRun (hdrShift hdr) (hdrFilter hdr) ((List.range 28).map (blockNibble s block)) old older).map s16).getD i 0 =
      s16 (decodedSamples s block hdr old older)[i] := by
  rw [List.getD_eq_getElem _ _ (by simpa [length_adpcmRun] using hi), List.getElem_map]
  rfl

/-- `Sample(n, k)` of the loaded record, from the second last sample of the block before on, is the track (R280). -/
theorem sampleAt_loadedVoice (p : Params) (s : State) (n : VoiceId) {k : Int} {j : Nat} (hk : k = (j : Int) - 2)
    (hj : j < 30) : sampleAt p (loadedVoice s n) k = (blockTrack s n).getD j 0 := by
  subst hk
  match j, hj with
  | 0, _ => rfl
  | 1, _ => rfl
  | i + 2, hj =>
    have hi : i < 28 := by omega
    have hcast : ((i + 2 : Nat) : Int) - 2 = (i : Int) := by omega
    rw [hcast]
    simp only [sampleAt, Int.natCast_nonneg, if_true, Int.toNat_natCast, hi, dif_pos]
    exact (getD_map_adpcmRun s _ _ _ _ hi).symm

/-- The samples of a decoded block: each from its nibble and the two samples before it (R274, R276). -/
theorem sampleAt_loadedVoice_step (p : Params) (s : State) (n : VoiceId) {i : Nat} (hi : i < 28) :
    sampleAt p (loadedVoice s n) i =
      adpcmSample (hdrShift (memRead1 s (s.voice n).cur.toNat)) (hdrFilter (memRead1 s (s.voice n).cur.toNat))
        (sampleAt p (loadedVoice s n) (i - 1)) (sampleAt p (loadedVoice s n) (i - 2))
        (blockNibble s (s.voice n).cur i) := by
  rw [sampleAt_loadedVoice p s n (k := i) (j := i + 2) (by omega) (by omega),
    sampleAt_loadedVoice p s n (k := i - 1) (j := i + 1) (by omega) (by omega),
    sampleAt_loadedVoice p s n (k := i - 2) (j := i) rfl (by omega), blockTrack,
    adpcmTrack_step _ _ _ _ _ _ (by simpa using hi)]
  simp only [List.getElem_map, List.getElem_range]

/-! ### The predictor and the repeat address, in numbers (R275, R277) -/

theorem predictorF0_eq (f : BitVec 2) : predictorF0 f = ([0, 60, 115, 98] : List Int).getD f.toNat 0 := by
  revert f
  decide

theorem predictorF1_eq (f : BitVec 2) : predictorF1 f = ([0, 0, -52, -55] : List Int).getD f.toNat 0 := by
  revert f
  decide

theorem repeatOf_eq (block : RamAddr) : repeatOf block = BitVec.ofNat 16 (block.toNat / 8) := by
  refine BitVec.eq_of_toNat_eq ?_
  simp only [repeatOf, BitVec.extractLsb'_toNat, BitVec.toNat_ofNat, Nat.shiftRight_eq_div_pow]

/-! ### The interrupt check of a block fetch (R278) -/

/-- The difference of two addresses is below 16 when one of the 16 bytes from the second on is the first. -/
theorem sub_toNat_lt_iff (a b : RamAddr) : (a - b).toNat < 16 ↔ ∃ k, k < 16 ∧ (b.toNat + k) % 0x80000 = a.toNat := by
  have ha := a.isLt
  have hb := b.isLt
  rw [BitVec.toNat_sub]
  constructor
  · intro h
    exact ⟨_, h, by omega⟩
  · rintro ⟨k, hk, hsum⟩
    omega

theorem voiceIrqCheck_checked (n : VoiceId) (block : RamAddr) (s : State) :
    Checked (∃ k, k < 16 ∧ (block.toNat + k) % 0x80000 = s.g.irqAddr.toNat * 8) (.voiceFetch n) s
      (voiceIrqCheck n block s) := by
  rw [← cursorOf_toNat]
  exact checked_congr (sub_toNat_lt_iff (irqByte s) block) (signalIrq_checked _ (.voiceFetch n) s)

/-! ### The state after a decode -/

/-- A decode with an accepted header changes its voice, and the flag and the trace through its check. -/
theorem loadBlock_frame (n : VoiceId) (s : State) :
    loadBlock n s =
      State.setVoice { s with g := { s.g with irqFlag := (loadBlock n s).g.irqFlag }, trace := (loadBlock n s).trace } n
        (loadedVoice s n) := by
  rw [loadBlock_eq, voiceIrqCheck_setVoice]
  generalize hv : loadedVoice s n = v
  exact congrArg (State.setVoice · n v) (voiceIrqCheck_step n (s.voice n).cur s).eq

theorem loadBlock_checked (n : VoiceId) (s : State) :
    Checked (∃ k, k < 16 ∧ ((s.voice n).cur.toNat + k) % 0x80000 = s.g.irqAddr.toNat * 8) (.voiceFetch n) s
      (loadBlock n s) := by
  rw [loadBlock_eq]
  exact voiceIrqCheck_checked n (s.voice n).cur (s.setVoice n (loadedVoice s n))

/-- Settles O36: the loaded record holds the new samples, the last three of the block before, the flags and the repeat address. -/
theorem decodeBlockSamples : Obligations.DecodeBlockSamples := by
  unfold Obligations.DecodeBlockSamples
  intro n s he v hdr flg f f0 f1 h6 hshift
  have hlegal : LegalHeader hdr := ⟨h6, by rw [hdrShift_eq]; exact hshift⟩
  have hload := decodeBlock_of_legal (n := n) (s := returning .none s) hlegal
  refine ⟨loadBlock n (returning .none s), loadedVoice (returning .none s) n, ?_, loadBlock_voice n _, ?_, fun i => ?_,
    loadBlock_checked n (returning .none s)⟩
  · rw [exec_intDecodeBlock he, hload]
  · refine (loadBlock_frame n (returning .none s)).trans ?_
    show _ = State.setVoice _ n { loadedVoice (returning .none s) n with
      repeatAddr := if loopStartFlag flg then BitVec.ofNat 16 (v.cur.toNat / 8) else v.repeatAddr }
    rw [← repeatOf_eq]
    rfl
  · refine (sampleAt_loadedVoice_step _ _ n i.isLt).trans ?_
    rw [adpcmSample, predictorF0_eq, predictorF1_eq, hdrFilter_toNat, hdrShift_eq]
    rfl

end Sys2Proof.Machine
end

section
/-! PROOFS. The fields that are stored only (spec/30_encoding.md R117, spec/40_register_file.md R194, R195): the external volumes and
the bits of the control register that no part of a mix step reads. Two states that differ in nothing else are twins; each part of
the mix step takes twins to twins and answers the same for both. -/

namespace Sys2Proof.Machine

open Sys2Proof Sys2Proof.Safety

/-! ### Twins -/

/-- The state with other external volumes and another control register. -/
def withStoredOnly (l r cnt : Half) (s : State) : State :=
  { s with g := { s.g with extVolL := l, extVolR := r, spucnt := cnt } }

/-- Two control registers agree in the bits that a mix step reads: 15, 14, 7, 6, 2 and 0. -/
def SameReadBits (cnt spucnt : Half) : Prop := (cnt ^^^ spucnt) &&& 0xC0C5 = 0

theorem SameReadBits.bit {cnt spucnt : Half} (h : SameReadBits cnt spucnt) {i : Nat}
    (hi : (0xC0C5#16).getLsbD i = true) : cnt.getLsbD i = spucnt.getLsbD i := by
  have hbit : ((cnt ^^^ spucnt) &&& 0xC0C5#16).getLsbD i = false := by
    rw [show (cnt ^^^ spucnt) &&& 0xC0C5#16 = 0#16 from h, BitVec.getLsbD_zero]
  rw [BitVec.getLsbD_and, hi, Bool.and_true, BitVec.getLsbD_xor] at hbit
  simpa using hbit

theorem SameReadBits.muted {cnt spucnt : Half} (h : SameReadBits cnt spucnt) : muted cnt = muted spucnt :=
  congrArg not (h.bit (by decide))

theorem SameReadBits.revWriteEn {cnt spucnt : Half} (h : SameReadBits cnt spucnt) : revWriteEn cnt = revWriteEn spucnt :=
  h.bit (by decide)

theorem SameReadBits.irq9En {cnt spucnt : Half} (h : SameReadBits cnt spucnt) : irq9En cnt = irq9En spucnt :=
  h.bit (by decide)

theorem SameReadBits.cdRevEn {cnt spucnt : Half} (h : SameReadBits cnt spucnt) : cdRevEn cnt = cdRevEn spucnt :=
  h.bit (by decide)

theorem SameReadBits.cdAudioEn {cnt spucnt : Half} (h : SameReadBits cnt spucnt) : cdAudioEn cnt = cdAudioEn spucnt :=
  h.bit (by decide)

/-- `t` is `s` with other stored-only fields. -/
structure Twin (l r cnt : Half) (s t : State) : Prop where
  bits : SameReadBits cnt s.g.spucnt
  eq : t = withStoredOnly l r cnt s

/-- Two answers are the same value beside states that are twins. -/
structure TwinAnswer {α : Type} (l r cnt : Half) (x y : α × State) : Prop where
  value : y.1 = x.1
  state : Twin l r cnt x.2 y.2

section twins

variable {l r cnt : Half} {s t : State}

/-- An operation that neither reads nor writes the stored-only fields keeps twins. -/
theorem Twin.of_comm {f : State → State} (h : Twin l r cnt s t) (hspucnt : (f s).g.spucnt = s.g.spucnt)
    (hf : f (withStoredOnly l r cnt s) = withStoredOnly l r cnt (f s)) : Twin l r cnt (f s) (f t) :=
  ⟨hspucnt ▸ h.bits, h.eq ▸ hf⟩

theorem faulted_twin (h : Twin l r cnt s t) : faulted t = faulted s := by rw [h.eq]; rfl

theorem voice_twin (h : Twin l r cnt s t) (n : VoiceId) : t.voice n = s.voice n := by rw [h.eq]; rfl

theorem memRead2_twin (h : Twin l r cnt s t) (a : Nat) : memRead2 t a = memRead2 s a := by rw [h.eq]; rfl

theorem returning_twin (h : Twin l r cnt s t) (x : Result) : Twin l r cnt (returning x s) (returning x t) :=
  h.of_comm rfl rfl

/-! ### The interrupt checks read bit 6 (R436) -/

theorem signalIrq_twin (h : Twin l r cnt s t) (source : IrqSource) :
    Twin l r cnt (signalIrq source s) (signalIrq source t) := by
  refine h.of_comm (f := signalIrq source) (by rw [(signalIrq_step source s).global]) ?_
  have hen : irq9En cnt = irq9En s.g.spucnt := h.bits.irq9En
  unfold signalIrq
  rw [apply_ite (withStoredOnly l r cnt), ← hen]
  rfl

theorem cellIrqCheck_twin (h : Twin l r cnt s t) (a : RamAddr) :
    Twin l r cnt (cellIrqCheck a s) (cellIrqCheck a t) := by
  have hbyte : irqByte t = irqByte s := by rw [h.eq]; rfl
  unfold cellIrqCheck
  rw [hbyte]
  split
  · exact signalIrq_twin h _
  · exact h

theorem voiceIrqCheck_twin (h : Twin l r cnt s t) (n : VoiceId) (block : RamAddr) :
    Twin l r cnt (voiceIrqCheck n block s) (voiceIrqCheck n block t) := by
  have hbyte : irqByte t = irqByte s := by rw [h.eq]; rfl
  unfold voiceIrqCheck
  rw [hbyte]
  split
  · exact signalIrq_twin h _
  · exact h

/-! ### The key latch (R342) -/

theorem foldl_twin {f : State → VoiceId → State}
    (hf : ∀ {s t} (n : VoiceId), Twin l r cnt s t → Twin l r cnt (f s n) (f t n)) (voices : List VoiceId)
    (h : Twin l r cnt s t) : Twin l r cnt (voices.foldl f s) (voices.foldl f t) := by
  induction voices generalizing s t with
  | nil => exact h
  | cons n rest ih => exact ih (hf n h)

theorem latchOn_twin (kon : Mask) (n : VoiceId) (h : Twin l r cnt s t) : Twin l r cnt (latchOn kon s n) (latchOn kon t n) := by
  unfold latchOn
  split
  · exact h.of_comm (f := keyOn n) (keyOn_change n s).spucnt rfl
  · exact h

theorem keyOff_twin (n : VoiceId) (h : Twin l r cnt s t) : Twin l r cnt (keyOff n s) (keyOff n t) := by
  refine h.of_comm (f := keyOff n) (keyOff_change n s).spucnt ?_
  unfold keyOff
  rw [apply_ite (withStoredOnly l r cnt)]
  rfl

theorem latchOff_twin (koff : Mask) (n : VoiceId) (h : Twin l r cnt s t) :
    Twin l r cnt (latchOff koff s n) (latchOff koff t n) := by
  unfold latchOff
  split
  · exact keyOff_twin n h
  · exact h

theorem keyLatch_twin (h : Twin l r cnt s t) : Twin l r cnt (keyLatch s) (keyLatch t) := by
  have hkon : t.g.konPend = s.g.konPend := by rw [h.eq]; rfl
  have hkoff : t.g.koffPend = s.g.koffPend := by rw [h.eq]; rfl
  have hclear : Twin l r cnt { s with g := { s.g with konPend := 0, koffPend := 0 } }
      { t with g := { t.g with konPend := 0, koffPend := 0 } } :=
    h.of_comm (f := fun s => { s with g := { s.g with konPend := 0, koffPend := 0 } }) rfl rfl
  unfold keyLatch
  rw [hkon, hkoff]
  exact foldl_twin (latchOff_twin _) _ (foldl_twin (latchOn_twin _) _ hclear)

/-! ### The voice step (R270) and the voice sum (R343) -/

theorem loadedVoice_twin (h : Twin l r cnt s t) (n : VoiceId) : loadedVoice t n = loadedVoice s n := by rw [h.eq]; rfl

theorem decodeBlock_twin (h : Twin l r cnt s t) (n : VoiceId) : Twin l r cnt (decodeBlock n s) (decodeBlock n t) := by
  have hhdr : memRead1 t (s.voice n).cur.toNat = memRead1 s (s.voice n).cur.toNat := by rw [h.eq]; rfl
  unfold decodeBlock
  simp only [voice_twin h, hhdr, loadBlock_eq, loadedVoice_twin h]
  split
  · exact h.of_comm (f := raise _) rfl rfl
  · split
    · exact h.of_comm (f := raise _) rfl rfl
    · exact voiceIrqCheck_twin (h.of_comm (f := fun s => s.setVoice n _) rfl rfl) n _

theorem ensureLoaded_twin (h : Twin l r cnt s t) (n : VoiceId) : Twin l r cnt (ensureLoaded n s) (ensureLoaded n t) := by
  unfold ensureLoaded
  rw [voice_twin h]
  split
  · exact h
  · exact decodeBlock_twin h n

theorem setVoice_twin (h : Twin l r cnt s t) (n : VoiceId) (v : Voice) :
    Twin l r cnt (s.setVoice n v) (t.setVoice n v) := h.of_comm (f := fun s => s.setVoice n v) rfl rfl

theorem rawSample_twin (h : Twin l r cnt s t) (p : Params) (n : VoiceId) :
    TwinAnswer l r cnt (rawSample p n s) (rawSample p n t) := by
  have hnon : t.g.non = s.g.non := by rw [h.eq]; rfl
  have hdraws : t.draws = s.draws := by rw [h.eq]; rfl
  unfold rawSample
  rw [hnon, voice_twin h]
  split
  · exact ⟨by rw [hdraws], h.of_comm (f := fun s => { s with draws := s.draws + 1 }) rfl rfl⟩
  · exact ⟨rfl, h⟩

theorem effectiveStep_twin (h : Twin l r cnt s t) (n : VoiceId) : effectiveStep n t = effectiveStep n s := by
  rw [h.eq]; rfl

theorem loopEnd_twin (h : Twin l r cnt s t) (n : VoiceId) : Twin l r cnt (loopEnd n s) (loopEnd n t) := by
  have hend : Twin l r cnt (setEndx n s) (setEndx n t) := h.of_comm (f := setEndx n) rfl rfl
  unfold loopEnd
  simp only [voice_twin hend]
  split
  · exact setVoice_twin hend n _
  · exact setVoice_twin hend n _

theorem blockBoundary_twin (h : Twin l r cnt s t) (n : VoiceId) :
    Twin l r cnt (blockBoundary n s) (blockBoundary n t) := by
  unfold blockBoundary
  simp only [voice_twin h]
  split
  · exact loopEnd_twin (setVoice_twin h n _) n
  · exact setVoice_twin h n _

theorem pitchAdvance_twin (h : Twin l r cnt s t) (n : VoiceId) (step : Nat) :
    Twin l r cnt (pitchAdvance n step s) (pitchAdvance n step t) := by
  unfold pitchAdvance
  simp only [voice_twin h]
  split
  · exact blockBoundary_twin (setVoice_twin h n _) n
  · exact setVoice_twin h n _

theorem adsrTick_twin (h : Twin l r cnt s t) (n : VoiceId) : Twin l r cnt (adsrTick n s) (adsrTick n t) := by
  unfold adsrTick
  rw [voice_twin h]
  exact setVoice_twin h n _

theorem voiceOutput_twin (h : Twin l r cnt s t) (p : Params) (n : VoiceId) :
    TwinAnswer l r cnt (voiceOutput p n s) (voiceOutput p n t) := by
  obtain ⟨hraw, hdrawn⟩ := rawSample_twin h p n
  have hpitch := pitchAdvance_twin hdrawn n (effectiveStep n (rawSample p n s).2)
  have htick := adsrTick_twin hpitch n
  unfold voiceOutput
  simp only [hraw, effectiveStep_twin hdrawn, voice_twin hpitch, voice_twin htick]
  exact ⟨rfl, setVoice_twin htick n _⟩

theorem voiceStep_twin (h : Twin l r cnt s t) (p : Params) (n : VoiceId) :
    TwinAnswer l r cnt (voiceStep p n s) (voiceStep p n t) := by
  have hloaded := ensureLoaded_twin h n
  unfold voiceStep
  simp only [offVoice, voice_twin h, faulted_twin hloaded]
  split
  · exact ⟨rfl, setVoice_twin h n _⟩
  · split
    · exact ⟨rfl, hloaded⟩
    · exact voiceOutput_twin hloaded p n

theorem sumVoices_twin (h : Twin l r cnt s t) (p : Params) (voices : List VoiceId) (acc : Sums) :
    TwinAnswer l r cnt (sumVoices p voices acc s) (sumVoices p voices acc t) := by
  induction voices generalizing acc s t with
  | nil => exact ⟨rfl, h⟩
  | cons n rest ih =>
    obtain ⟨hvalue, hstep⟩ := voiceStep_twin h p n
    have heon : (voiceStep p n t).2.g.eon = (voiceStep p n s).2.g.eon := by rw [hstep.eq]; rfl
    unfold sumVoices
    simp only [hvalue, faulted_twin hstep, heon]
    split
    · exact ⟨rfl, hstep⟩
    · exact ih hstep _

/-! ### The reverb processor reads bit 7 (R383) -/

theorem revAddr_twin (h : Twin l r cnt s t) (off : Int) : revAddr t off = revAddr s off := by rw [h.eq]; rfl

theorem revRead_twin (h : Twin l r cnt s t) (off : Int) : TwinAnswer l r cnt (revRead off s) (revRead off t) := by
  unfold revRead
  simp only [revAddr_twin h, memRead2_twin h]
  exact ⟨rfl, cellIrqCheck_twin h _⟩

theorem revWrite_twin (h : Twin l r cnt s t) (off v : Int) : Twin l r cnt (revWrite off v s) (revWrite off v t) := by
  have hen : revWriteEn t.g.spucnt = revWriteEn s.g.spucnt := by rw [h.eq]; exact h.bits.revWriteEn
  unfold revWrite
  simp only [hen, revAddr_twin h]
  split
  · exact (cellIrqCheck_twin h _).of_comm (f := memWrite2 _ _) rfl rfl
  · exact h

theorem reflect_twin (h : Twin l r cnt s t) (vWALL vIIR m d : Half) (xin : Int) :
    Twin l r cnt (reflect vWALL vIIR m d xin s) (reflect vWALL vIIR m d xin t) := by
  obtain ⟨hold, h1⟩ := revRead_twin h (byteAddr m - 2)
  obtain ⟨htap, h2⟩ := revRead_twin h1 (byteAddr d)
  unfold reflect
  simp only [hold, htap]
  exact revWrite_twin h2 _ _

theorem comb_twin (h : Twin l r cnt s t) (rv : ReverbRegs) (c : ChannelRegs) :
    TwinAnswer l r cnt (comb rv c s) (comb rv c t) := by
  obtain ⟨hv1, h1⟩ := revRead_twin h (byteAddr c.mCOMB1)
  obtain ⟨hv2, h2⟩ := revRead_twin h1 (byteAddr c.mCOMB2)
  obtain ⟨hv3, h3⟩ := revRead_twin h2 (byteAddr c.mCOMB3)
  obtain ⟨hv4, h4⟩ := revRead_twin h3 (byteAddr c.mCOMB4)
  unfold comb
  simp only [hv1, hv2, hv3, hv4]
  exact ⟨rfl, h4⟩

theorem allPass_twin (h : Twin l r cnt s t) (v m d : Half) (x : Int) :
    TwinAnswer l r cnt (allPass v m d x s) (allPass v m d x t) := by
  obtain ⟨htap, h1⟩ := revRead_twin h ((m.toNat - d.toNat) * 8)
  unfold allPass
  simp only [htap]
  exact ⟨rfl, revWrite_twin h1 _ _⟩

theorem channel_twin (h : Twin l r cnt s t) (c : ChannelRegs) (input : Int) :
    TwinAnswer l r cnt (channel c input s) (channel c input t) := by
  have hrv : t.rv = s.rv := by rw [h.eq]; rfl
  have h1 := reflect_twin h s.rv.vWALL s.rv.vIIR c.mSAME c.dSAME (gain input c.vIN)
  have h2 := reflect_twin h1 s.rv.vWALL s.rv.vIIR c.mDIFF c.dDIFF (gain input c.vIN)
  obtain ⟨hcomb, h3⟩ := comb_twin h2 s.rv c
  have h4 (x : Int) := allPass_twin h3 s.rv.vAPF1 c.mAPF1 s.rv.dAPF1 x
  have h5 (x y : Int) := allPass_twin (h4 x).state s.rv.vAPF2 c.mAPF2 s.rv.dAPF2 y
  unfold channel
  simp only [hrv, hcomb, (h4 _).value, (h5 _ _).value]
  exact ⟨rfl, (h5 _ _).state⟩

theorem reverb_twin (h : Twin l r cnt s t) (inL inR : Int) :
    TwinAnswer l r cnt (reverb inL inR s) (reverb inL inR t) := by
  have hrv : t.rv = s.rv := by rw [h.eq]; rfl
  obtain ⟨hleft, h1⟩ := channel_twin h (leftRegs s.rv) inL
  obtain ⟨hright, h2⟩ := channel_twin h1 (rightRegs s.rv) inR
  unfold reverb
  simp only [hrv, hleft, hright]
  exact ⟨rfl, h2.of_comm (f := cursorAdvance) rfl rfl⟩

/-! ### Parts 3 to 7 of the mix step read bits 14, 2 and 0 (R345, R350) -/

theorem cdDequeue_twin (h : Twin l r cnt s t) : TwinAnswer l r cnt (cdDequeue s) (cdDequeue t) := by
  have hcdq : t.cdq = s.cdq := by rw [h.eq]; rfl
  unfold cdDequeue
  rw [hcdq]
  split
  · exact ⟨rfl, h⟩
  · exact ⟨rfl, h.of_comm (f := fun s => { s with cdq := _ }) rfl rfl⟩

theorem cdMix_twin (h : Twin l r cnt s t) (pair : Half × Half) (acc : Sums) : cdMix t.g pair acc = cdMix s.g pair acc := by
  rw [h.eq]
  unfold cdMix
  simp only [withStoredOnly, h.bits.cdAudioEn, h.bits.cdRevEn]

theorem captureWrite_twin (h : Twin l r cnt s t) (cl cr : Half) :
    Twin l r cnt (captureWrite cl cr s) (captureWrite cl cr t) := h.of_comm (f := captureWrite cl cr) rfl rfl

theorem reverbPart_twin (h : Twin l r cnt s t) (acc : Sums) :
    TwinAnswer l r cnt (reverbPart acc s) (reverbPart acc t) := by
  have hphase : t.g.revPhase = s.g.revPhase := by rw [h.eq]; rfl
  obtain ⟨hvalue, hrun⟩ := reverb_twin h (sat16 acc.revL) (sat16 acc.revR)
  unfold reverbPart
  simp only [hphase, hvalue]
  split
  · exact ⟨rfl, h.of_comm (f := fun u => { u with g := { u.g with revPhase := !s.g.revPhase } }) rfl rfl⟩
  · exact ⟨rfl, hrun.of_comm (f := fun u => { u with g := { u.g with revPhase := !u.g.revPhase } }) rfl rfl⟩

theorem finalMix_twin (h : Twin l r cnt s t) (dryL dryR : Int) : finalMix dryL dryR t = finalMix dryL dryR s := by
  rw [h.eq]
  simp only [finalMix, finalChannel, withStoredOnly, h.bits.muted]

theorem outputAppend_twin (h : Twin l r cnt s t) (x y : Half) :
    Twin l r cnt (outputAppend x y s) (outputAppend x y t) := by
  have hout : t.out = s.out := by rw [h.eq]; rfl
  unfold outputAppend
  simp only [hout]
  split
  · exact h.of_comm (f := fun s => emit _ { s with out := [] }) rfl rfl
  · exact h.of_comm (f := fun s => { s with out := _ }) rfl rfl

theorem mixOutput_twin (h : Twin l r cnt s t) (acc : Sums) : Twin l r cnt (mixOutput acc s) (mixOutput acc t) := by
  obtain ⟨hpair, h1⟩ := cdDequeue_twin h
  have h2 := captureWrite_twin h1 (cdDequeue s).1.1 (cdDequeue s).1.2
  obtain ⟨hsums, h3⟩ := reverbPart_twin h2 (cdMix (cdDequeue s).2.g (cdDequeue s).1 acc)
  unfold mixOutput
  simp only [hpair, cdMix_twin h1, hsums, finalMix_twin h3]
  exact outputAppend_twin h3 _ _

theorem mixStep_twin (h : Twin l r cnt s t) (p : Params) : Twin l r cnt (mixStep p s) (mixStep p t) := by
  obtain ⟨hsums, hsum⟩ := sumVoices_twin (keyLatch_twin h) p allVoices Sums.zero
  unfold mixStep voiceSum
  simp only [hsums, faulted_twin hsum]
  split
  · exact hsum
  · exact mixOutput_twin hsum _

theorem transact_twin {f : State → State} (h : Twin l r cnt s t)
    (hf : ∀ {s t}, Twin l r cnt s t → Twin l r cnt (f s) (f t)) : Twin l r cnt (transact f s) (transact f t) := by
  unfold transact
  rw [faulted_twin h]
  split
  · exact returning_twin h _
  · exact hf (returning_twin h _)

end twins

/-- Settles O51: a state and its twin are taken by a mix step to a state and its twin. -/
theorem storedOnlyFieldsHaveNoEffect : Obligations.StoredOnlyFieldsHaveNoEffect := by
  unfold Obligations.StoredOnlyFieldsHaveNoEffect
  intro s t l r cnt hbits hexec
  have htwin : Twin l r cnt s (withStoredOnly l r cnt s) := ⟨hbits, rfl⟩
  have hmix := transact_twin htwin fun h => mixStep_twin h Config.params
  cases hexec
  exact congrArg Host.Outcome.next hmix.eq

end Sys2Proof.Machine
end

section
/-! PROOFS. The register file (spec/40_register_file.md R160 to R231): the control register, the registers of a voice, the masks that
are accessed by halves, and the registers that are stored whole. -/

namespace Sys2Proof.Machine

open Sys2Proof Sys2Proof.Safety

/-! ### The control register (R190) -/

theorem and_irq9En_eq (irqFlag : Bool) (v : Half) : (irqFlag && irq9En v) = if v.getLsbD 6 then irqFlag else false := by
  unfold irq9En
  cases v.getLsbD 6 <;> simp

/-- Settles O18: the write is one update of the state, and what it does to the voices is said voice by voice. -/
theorem controlRegister : Obligations.ControlRegister := by
  unfold Obligations.ControlRegister
  intro v s he
  refine ⟨exec_rd16Of_of_readReg he (r := .spucnt) rfl, writeSpucnt v (returning .none s),
    exec_wr16Of_of_noError he .spucnt v, ?_, fun n => writeSpucnt_voice v (returning .none s) n⟩
  have hupdate := writeSpucnt_eq v (returning .none s)
  rw [and_irq9En_eq] at hupdate
  exact hupdate

/-! ### The registers of a voice (R160 to R167) -/

theorem envWritten_eq_ofNat (v : Half) : envWritten v = BitVec.ofNat 16 (v.toNat % 0x8000) := by
  refine BitVec.eq_of_toNat_eq ?_
  rw [envWritten_toNat, BitVec.toNat_ofNat]
  omega

/-- Settles O11: each write sets one field of the record, and the one of the level drops bit 15. -/
theorem voiceRegisters : Obligations.VoiceRegisters := by
  unfold Obligations.VoiceRegisters
  intro n v s he
  have hrd (r : VoiceReg) : exec (rd16Of (.voice r n)) s = .next (returning (.half (readVoiceReg (s.voice n) r)) s) :=
    exec_rd16Of_of_readReg he rfl
  have hwr (r : VoiceReg) : exec (wr16Of (.voice r n) v) s = .next (writeVoiceReg n v (returning .none s) r) :=
    exec_wr16Of_of_noError he (.voice r n) v
  rw [← envWritten_eq_ofNat]
  exact ⟨hrd .volL, hwr .volL, hrd .volR, hwr .volR, hrd .pitch, hwr .pitch, hrd .start, hwr .start,
    hrd .adsrLo, hwr .adsrLo, hrd .env, hwr .env, hrd .repeatAddr, hwr .repeatAddr⟩

/-! ### Masks by halves (R116, R174 to R183) -/

/-- Bits 15:0 of a mask come from the value written, the others from the mask. -/
theorem maskBit_setMaskLo (m : Mask) (v : Half) (n : VoiceId) :
    maskBit (setMaskLo m v) n = if n.val < 16 then v.getLsbD n.val else maskBit m n := by
  have hn := n.isLt
  simp only [maskBit, setMaskLo, BitVec.getLsbD_append, BitVec.getLsbD_extractLsb']
  split
  next => rfl
  next h =>
    have hsum : 16 + (n.val - 16) = n.val := by omega
    have hlt : n.val - 16 < 8 := by omega
    rw [hsum, decide_eq_true hlt, Bool.true_and]

/-- Bits 23:16 of a mask come from bits 7:0 of the value written, the others from the mask. -/
theorem maskBit_setMaskHi (m : Mask) (v : Half) (n : VoiceId) :
    maskBit (setMaskHi m v) n = if n.val < 16 then maskBit m n else v.getLsbD (n.val - 16) := by
  have hn := n.isLt
  simp only [maskBit, setMaskHi, BitVec.getLsbD_append, BitVec.getLsbD_extractLsb', Nat.zero_add]
  split
  next h => rw [decide_eq_true h, Bool.true_and]
  next h =>
    have hlt : n.val - 16 < 8 := by omega
    rw [decide_eq_true hlt, Bool.true_and]

theorem maskBit_low (m : Mask) (n : VoiceId) (h : n.val < 16) : maskBit m n = (maskLo m).getLsbD n.val := by
  simp [maskBit, maskLo, h]

theorem maskBit_high (m : Mask) (n : VoiceId) (h : ¬ n.val < 16) : maskBit m n = (maskHi m).getLsbD (n.val - 16) := by
  have hsum : 16 + (n.val - 16) = n.val := by omega
  have hlt : n.val - 16 < 8 := by omega
  have hlt' : n.val - 16 < 16 := by omega
  simp [maskBit, maskHi, hsum, hlt, hlt']

theorem maskBit_or (a b : Mask) (n : VoiceId) : maskBit (a ||| b) n = (maskBit a n || maskBit b n) :=
  BitVec.getLsbD_or

theorem maskBit_and (a b : Mask) (n : VoiceId) : maskBit (a &&& b) n = (maskBit a n && maskBit b n) :=
  BitVec.getLsbD_and

theorem maskBit_keepHigh : ∀ n : VoiceId, maskBit (0xFF0000 : Mask) n = !decide (n.val < 16) := by decide

theorem maskBit_keepLow : ∀ n : VoiceId, maskBit (0x00FFFF : Mask) n = decide (n.val < 16) := by decide

/-- A half value as bits 15:0 of a mask; the value has no bit above them. -/
theorem maskBit_lowHalf (v : Half) (n : VoiceId) :
    maskBit (v.setWidth 24) n = if n.val < 16 then v.getLsbD n.val else false := by
  have hbit : maskBit (v.setWidth 24) n = v.getLsbD n.val := by simp [maskBit]
  rw [hbit]
  split
  next => rfl
  next h => exact BitVec.getLsbD_of_ge v n.val (by omega)

/-- A half value as bits 23:16 of a mask; its own bits 15:8 fall off at the top. -/
theorem maskBit_highHalf (v : Half) (n : VoiceId) :
    maskBit (v.setWidth 24 <<< 16) n = if n.val < 16 then false else v.getLsbD (n.val - 16) := by
  split
  next h => simp [maskBit, h]
  next h => simp [maskBit, h]

/-- The low half replaced (R116), in the words of the statements. -/
theorem setMaskLo_eq (m : Mask) (v : Half) : setMaskLo m v = (m &&& (0xFF0000 : Mask)) ||| v.setWidth 24 := by
  refine mask_ext fun n => ?_
  rw [maskBit_setMaskLo, maskBit_or, maskBit_and, maskBit_keepHigh, maskBit_lowHalf]
  by_cases h : n.val < 16 <;> simp [h]

/-- The high half replaced (R116), in the words of the statements. -/
theorem setMaskHi_eq (m : Mask) (v : Half) : setMaskHi m v = (m &&& (0x00FFFF : Mask)) ||| v.setWidth 24 <<< 16 := by
  refine mask_ext fun n => ?_
  rw [maskBit_setMaskHi, maskBit_or, maskBit_and, maskBit_keepLow, maskBit_highHalf]
  by_cases h : n.val < 16 <;> simp [h]

/-- The value ORed into the low half is ORed into the mask (R174, R176). -/
theorem setMaskLo_accumulate (m : Mask) (v : Half) : setMaskLo m (maskLo m ||| v) = m ||| v.setWidth 24 := by
  refine mask_ext fun n => ?_
  rw [maskBit_setMaskLo, maskBit_or, maskBit_lowHalf, BitVec.getLsbD_or]
  split
  next h => rw [maskBit_low m n h]
  next => rw [Bool.or_false]

/-- The value ORed into the high half is ORed into the mask, its bits 15:8 dropped (R175, R177). -/
theorem setMaskHi_accumulate (m : Mask) (v : Half) :
    setMaskHi m (maskHi m ||| v) = m ||| v.setWidth 24 <<< 16 := by
  refine mask_ext fun n => ?_
  rw [maskBit_setMaskHi, maskBit_or, maskBit_highHalf, BitVec.getLsbD_or]
  split
  next => rw [Bool.or_false]
  next h => rw [maskBit_high m n h]

/-- Settles O14: the written half is ORed into the pending half, which is the OR of the whole mask with it at its place. -/
theorem keyRequestRegisters : Obligations.KeyRequestRegisters := by
  unfold Obligations.KeyRequestRegisters
  intro v s he
  have hrd (r : Reg) {w : Half} (hr : readReg s r = some w) := exec_rd16Of_of_readReg he hr
  have hwr (r : Reg) := exec_wr16Of_of_noError he r v
  simp only [← maskHi_eq_setWidth]
  simp only [← maskLo_eq_setWidth, ← setMaskLo_accumulate, ← setMaskHi_accumulate]
  exact ⟨hrd .konLo rfl, hrd .konHi rfl, hwr .konLo, hwr .konHi, hrd .koffLo rfl, hrd .koffHi rfl, hwr .koffLo, hwr .koffHi⟩

/-- Settles O15: the written half takes the place of the mask's, the other half is kept. -/
theorem voiceMaskRegisters : Obligations.VoiceMaskRegisters := by
  unfold Obligations.VoiceMaskRegisters
  intro v s he
  have hrd (r : Reg) {w : Half} (hr : readReg s r = some w) := exec_rd16Of_of_readReg he hr
  have hwr (r : Reg) := exec_wr16Of_of_noError he r v
  simp only [← maskHi_eq_setWidth]
  simp only [← maskLo_eq_setWidth, ← setMaskLo_eq, ← setMaskHi_eq]
  exact ⟨hrd .pmonLo rfl, hrd .pmonHi rfl, hwr .pmonLo, hwr .pmonHi, hrd .nonLo rfl, hrd .nonHi rfl, hwr .nonLo, hwr .nonHi,
    hrd .eonLo rfl, hrd .eonHi rfl, hwr .eonLo, hwr .eonHi⟩

/-! ### Registers that are stored whole (R170 to R173, R186 to R188, R192 to R231) -/

/-- Settles O13: each of the six is one field of the global record. -/
theorem volumeRegisters : Obligations.VolumeRegisters := by
  unfold Obligations.VolumeRegisters
  intro v s he
  have hrd (r : Reg) {w : Half} (hr : readReg s r = some w) := exec_rd16Of_of_readReg he hr
  have hwr (r : Reg) := exec_wr16Of_of_noError he r v
  exact ⟨hrd .mvolL rfl, hwr .mvolL, hrd .mvolR rfl, hwr .mvolR, hrd .cdvolL rfl, hwr .cdvolL,
    hrd .cdvolR rfl, hwr .cdvolR, hrd .extvolL rfl, hwr .extvolL, hrd .extvolR rfl, hwr .extvolR⟩

/-- Settles O17: a read returns the register, and a reloaded cursor is the byte address of the value written. -/
theorem addressRegisters : Obligations.AddressRegisters := by
  unfold Obligations.AddressRegisters
  intro v s he
  have hrd (r : Reg) {w : Half} (hr : readReg s r = some w) := exec_rd16Of_of_readReg he hr
  have hwr (r : Reg) := exec_wr16Of_of_noError he r v
  exact ⟨hrd .mbase rfl, hrd .irqAddr rfl, hrd .xferAddr rfl, hwr .mbase, hwr .irqAddr, hwr .xferAddr⟩

/-- Settles O21: each of the volume-type registers is one field of the reverb record, which is zero after reset. -/
theorem reverbGainRegisters : Obligations.ReverbGainRegisters := by
  unfold Obligations.ReverbGainRegisters
  intro v s he
  have hrd (r : Reg) {w : Half} (hr : readReg s r = some w) := exec_rd16Of_of_readReg he hr
  have hwr (r : Reg) := exec_wr16Of_of_noError he r v
  exact ⟨hrd .vLOUT rfl, hwr .vLOUT, hrd .vROUT rfl, hwr .vROUT, hrd .vIIR rfl, hwr .vIIR,
    hrd .vCOMB1 rfl, hwr .vCOMB1, hrd .vCOMB2 rfl, hwr .vCOMB2, hrd .vCOMB3 rfl, hwr .vCOMB3,
    hrd .vCOMB4 rfl, hwr .vCOMB4, hrd .vWALL rfl, hwr .vWALL, hrd .vAPF1 rfl, hwr .vAPF1,
    hrd .vAPF2 rfl, hwr .vAPF2, hrd .vLIN rfl, hwr .vLIN, hrd .vRIN rfl, hwr .vRIN,
    rfl, rfl, rfl, rfl, rfl, rfl, rfl, rfl, rfl, rfl, rfl, rfl, rfl⟩

/-- Settles O22: each of these address-type registers is one field of the reverb record, which is zero after reset. -/
theorem reverbFirstTapRegisters : Obligations.ReverbFirstTapRegisters := by
  unfold Obligations.ReverbFirstTapRegisters
  intro v s he
  have hrd (r : Reg) {w : Half} (hr : readReg s r = some w) := exec_rd16Of_of_readReg he hr
  have hwr (r : Reg) := exec_wr16Of_of_noError he r v
  exact ⟨hrd .dAPF1 rfl, hwr .dAPF1, hrd .dAPF2 rfl, hwr .dAPF2, hrd .mLSAME rfl, hwr .mLSAME,
    hrd .mRSAME rfl, hwr .mRSAME, hrd .mLCOMB1 rfl, hwr .mLCOMB1, hrd .mRCOMB1 rfl, hwr .mRCOMB1,
    hrd .mLCOMB2 rfl, hwr .mLCOMB2, hrd .mRCOMB2 rfl, hwr .mRCOMB2, hrd .dLSAME rfl, hwr .dLSAME,
    hrd .dRSAME rfl, hwr .dRSAME, hrd .mLDIFF rfl, hwr .mLDIFF, hrd .mRDIFF rfl, hwr .mRDIFF,
    rfl, rfl, rfl, rfl, rfl, rfl, rfl, rfl, rfl, rfl, rfl, rfl, rfl⟩

/-- Settles O23: the later taps are fields of the reverb record as well, with the same reset value. -/
theorem reverbLaterTapRegisters : Obligations.ReverbLaterTapRegisters := by
  unfold Obligations.ReverbLaterTapRegisters
  intro v s he
  have hrd (r : Reg) {w : Half} (hr : readReg s r = some w) := exec_rd16Of_of_readReg he hr
  have hwr (r : Reg) := exec_wr16Of_of_noError he r v
  exact ⟨hrd .mLCOMB3 rfl, hwr .mLCOMB3, hrd .mRCOMB3 rfl, hwr .mRCOMB3, hrd .mLCOMB4 rfl, hwr .mLCOMB4,
    hrd .mRCOMB4 rfl, hwr .mRCOMB4, hrd .dLDIFF rfl, hwr .dLDIFF, hrd .dRDIFF rfl, hwr .dRDIFF,
    hrd .mLAPF1 rfl, hwr .mLAPF1, hrd .mRAPF1 rfl, hwr .mRAPF1, hrd .mLAPF2 rfl, hwr .mLAPF2,
    hrd .mRAPF2 rfl, hwr .mRAPF2, rfl, rfl, rfl, rfl, rfl, rfl, rfl, rfl, rfl, rfl, rfl⟩

end Sys2Proof.Machine
end

section
/-! PROOFS. The micro-operations of a voice (spec/41_voice_adpcm.md R271, R272, R291): each runs its operation on an unfaulted
block, and what key on, key off and the voice step of an Off voice leave. -/

namespace Sys2Proof.Machine

open Sys2Proof Sys2Proof.Safety

/-! ### The micro-operations, on an unfaulted block (R430) -/

theorem exec_intKeyOn {s : State} (he : NoError s) (n : VoiceId) :
    exec (.intKeyOn n) s = .next (keyOn n (returning .none s)) := congrArg _ (transact_of_noError _ he)

theorem exec_intKeyOff {s : State} (he : NoError s) (n : VoiceId) :
    exec (.intKeyOff n) s = .next (keyOff n (returning .none s)) := congrArg _ (transact_of_noError _ he)

theorem exec_intKeyLatch {s : State} (he : NoError s) :
    exec .intKeyLatch s = .next (keyLatch (returning .none s)) := congrArg _ (transact_of_noError _ he)

theorem exec_intMixStep {s : State} (he : NoError s) :
    exec .intMixStep s = .next (mixStep Config.params (returning .none s)) := congrArg _ (transact_of_noError _ he)

theorem exec_intInterpolate {s : State} (he : NoError s) (n : VoiceId) :
    exec (.intInterpolate n) s = .next (returning (.int (interpolate Config.params (s.voice n))) s) :=
  congrArg _ (transact_of_noError _ he)

theorem exec_intEffectiveStep {s : State} (he : NoError s) (n : VoiceId) :
    exec (.intEffectiveStep n) s = .next (returning (.int (effectiveStep n s)) s) := congrArg _ (transact_of_noError _ he)

theorem exec_intPitchAdvance {s : State} (he : NoError s) (n : VoiceId) (step : BitVec 15) :
    exec (.intPitchAdvance n step) s = .next (pitchAdvance n step.toNat (returning .none s)) :=
  congrArg _ (transact_of_noError _ he)

theorem exec_intAdsrTick {s : State} (he : NoError s) (n : VoiceId) :
    exec (.intAdsrTick n) s = .next (adsrTick n (returning .none s)) := congrArg _ (transact_of_noError _ he)

/-- A voice step that does not fault answers the voice's contribution. -/
theorem exec_intVoiceStep {s : State} (he : NoError s) (n : VoiceId)
    (hstep : NoError (voiceStep Config.params n (returning .none s)).2) :
    exec (.intVoiceStep n) s =
      .next (returning (.pair (voiceStep Config.params n (returning .none s)).1.1
          (voiceStep Config.params n (returning .none s)).1.2)
        (voiceStep Config.params n (returning .none s)).2) := by
  have hpair : returningPair (voiceStep Config.params n (returning .none s)) = returning _ _ :=
    if_neg (by rw [faulted_of_noError hstep]; exact Bool.false_ne_true)
  exact congrArg _ ((transact_of_noError _ he).trans hpair)

/-- An answer that the state holds already changes nothing. -/
theorem returning_of_result {s : State} {r : Result} (h : s.result = r) : returning r s = s := by subst h; rfl

/-! ### Key on, key off, an Off voice -/

theorem oneHot_eq (n : VoiceId) : oneHot n = (1 : Mask) <<< n.val := by
  revert n
  decide

/-- Settles O34: both operations are the field updates of R271 and R272, and the ENDX bit is a mask with one bit. -/
theorem keyOnAndKeyOff : Obligations.KeyOnAndKeyOff := by
  unfold Obligations.KeyOnAndKeyOff
  intro n s he
  constructor
  · rw [exec_intKeyOn he, ← oneHot_eq]
    rfl
  · rw [exec_intKeyOff he]
    rfl

theorem voiceStep_of_off (p : Params) {n : VoiceId} {s : State} (h : (s.voice n).phase = .off) :
    voiceStep p n s = ((0, 0), offVoice n s) := if_pos h

/-- Settles O43: an Off voice takes the one branch of the voice step that decodes nothing and cannot fault. -/
theorem voiceStepWhenOff : Obligations.VoiceStepWhenOff := by
  unfold Obligations.VoiceStepWhenOff
  intro n s he hoff
  have hstep := voiceStep_of_off Config.params (s := returning .none s) hoff
  rw [exec_intVoiceStep he n (by rw [hstep]; exact he), hstep]
  rfl

end Sys2Proof.Machine
end

section
/-! PROOFS. The interpolator (spec/41_voice_adpcm.md R280, R281): the points `Sample(n, k)` from -3 on are the history followed by
the block. -/

namespace Sys2Proof.Machine

open Sys2Proof Sys2Proof.Safety

/-- The samples of a voice from `Sample(n, -3)` to `Sample(n, 27)`, oldest first (R280). -/
def samplePoints (v : Voice) : List Half := v.hist.toList ++ v.buf.toList

theorem samplePoints_hist (v : Voice) {k : Nat} (hk : k < 3) : (samplePoints v).getD k 0 = v.hist[k] := by
  rw [samplePoints, List.getD_append _ _ _ _ (by simpa using hk), List.getD_eq_getElem _ _ (by simpa using hk),
    Vector.getElem_toList]

theorem samplePoints_buf (v : Voice) {k : Nat} (hk : k < 28) : (samplePoints v).getD (k + 3) 0 = v.buf[k] := by
  rw [samplePoints, List.getD_append_right _ _ _ _ (by simp), Vector.length_toList, Nat.add_sub_cancel,
    List.getD_eq_getElem _ _ (by simpa using hk), Vector.getElem_toList]

theorem sampleAt_eq_samplePoints (p : Params) (v : Voice) {k : Nat} (hk : k < 31) :
    sampleAt p v ((k : Int) - 3) = s16 ((samplePoints v).getD k 0) := by
  match k, hk with
  | 0, _ => exact congrArg s16 (samplePoints_hist v (by decide)).symm
  | 1, _ => exact congrArg s16 (samplePoints_hist v (by decide)).symm
  | 2, _ => exact congrArg s16 (samplePoints_hist v (by decide)).symm
  | i + 3, hk =>
    have hi : i < 28 := by omega
    have hcast : ((i + 3 : Nat) : Int) - 3 = (i : Int) := by omega
    rw [hcast, samplePoints_buf v hi]
    simp only [sampleAt, Int.natCast_nonneg, if_true, Int.toNat_natCast, hi, dif_pos]

theorem fraction_eq_ofNat (pcount : BitVec 17) : fraction pcount = BitVec.ofNat 12 pcount.toNat :=
  BitVec.eq_of_toNat_eq (by rw [fraction_eq, BitVec.toNat_ofNat])

/-- While the counter is in the block, the interpolator weights four consecutive points (R281). -/
theorem interpolate_eq (p : Params) (v : Voice) (hpos : v.pcount.toNat < 0x1C000) :
    interpolate p v =
      let idx := v.pcount.toNat / 0x1000
      let c := p.interp (BitVec.ofNat 12 v.pcount.toNat)
      sat16 (sar (s16 c.c0 * s16 ((samplePoints v).getD idx 0) + s16 c.c1 * s16 ((samplePoints v).getD (idx + 1) 0) +
        s16 c.c2 * s16 ((samplePoints v).getD (idx + 2) 0) + s16 c.c3 * s16 ((samplePoints v).getD (idx + 3) 0)) 15) := by
  have hpoint (j : Nat) (hj : j ≤ 3) {k : Int} (hk : k = ((v.pcount.toNat / 0x1000 : Nat) : Int) - 3 + j) :
      sampleAt p v k = s16 ((samplePoints v).getD (v.pcount.toNat / 0x1000 + j) 0) := by
    rw [← sampleAt_eq_samplePoints p v (by omega)]
    congr 1
    omega
  simp only [interpolate, sampleIndex_eq, fraction_eq_ofNat]
  rw [hpoint 0 (by omega) (by omega), hpoint 1 (by omega) (by omega), hpoint 2 (by omega) (by omega),
    hpoint 3 (by omega) (by omega)]
  rfl

/-- Settles O38: the four points of the rule are consecutive in the list of history and block. -/
theorem interpolateFourPoints : Obligations.InterpolateFourPoints := by
  unfold Obligations.InterpolateFourPoints
  intro n s he hpos v points idx c
  rw [exec_intInterpolate he, interpolate_eq Config.params (s.voice n) hpos]
  rfl

end Sys2Proof.Machine
end

section
/-! PROOFS. Pitch (spec/41_voice_adpcm.md R284 to R288): the effective step with and without modulation, the advance of the
counter, and what leaving a block does. -/

namespace Sys2Proof.Machine

open Sys2Proof Sys2Proof.Safety

/-! ### The effective step (R284, R285) -/

theorem rawStep_eq (pitch : Half) : rawStep pitch = pitch.toNat % 0x4000 := by
  simp [rawStep]

/-- The step of a modulated voice before the cap: the raw step times a factor in 0..0xFFFF (R285). -/
theorem modulated_nonneg (raw : Nat) (last : Half) : 0 ≤ (raw : Int) * (s16 last + 0x8000) / 2 ^ 15 :=
  have hlast := (s16_range last).1
  Int.ediv_nonneg (Int.mul_nonneg (Int.natCast_nonneg raw) (by omega)) (by decide)

/-- The cap on a step that is not negative. -/
theorem capped_eq_min {step : Int} (h : 0 ≤ step) :
    ((if 0x4000 < step then 0x4000 else step.toNat : Nat) : Int) = min 0x4000 step := by
  split <;> omega

/-- Without modulation the cap does not act: a raw step has 14 bits. -/
theorem effectiveStep_raw {n : VoiceId} {s : State} (h : n.val = 0 ∨ maskBit s.g.pmon n = false) :
    (effectiveStep n s : Int) = (rawStep (s.voice n).pitch : Nat) := by
  have hmod : ¬ (0 < n.val ∧ maskBit s.g.pmon n = true) := by
    rintro ⟨hpos, hbit⟩
    rcases h with h | h
    · omega
    · rw [h] at hbit; cases hbit
  have hraw : rawStep (s.voice n).pitch < 0x4000 := by rw [rawStep_eq]; omega
  simp only [effectiveStep, hmod, if_false]
  rw [capped_eq_min (Int.natCast_nonneg _)]
  omega

theorem effectiveStep_modulated {n before : VoiceId} {s : State} (hb : before.val + 1 = n.val)
    (h : maskBit s.g.pmon n = true) :
    (effectiveStep n s : Int) =
      min 0x4000 ((rawStep (s.voice n).pitch : Int) * (s16 (s.voice before).lastSample + 0x8000) / 2 ^ 15) := by
  have hbefore : (⟨n.val - 1, by omega⟩ : VoiceId) = before := Fin.ext (by simp only; omega)
  have hmod : 0 < n.val ∧ maskBit s.g.pmon n = true := ⟨by omega, h⟩
  simp only [effectiveStep, hmod, and_self, if_true, hbefore]
  exact capped_eq_min (modulated_nonneg _ _)

/-- Settles O39: the raw step never meets the cap, and the modulated one is not negative. -/
theorem effectiveStepModulation : Obligations.EffectiveStepModulation := by
  unfold Obligations.EffectiveStepModulation
  intro n s he raw
  have hraw : (rawStep (s.voice n).pitch : Int) = raw := congrArg Nat.cast (rawStep_eq _)
  refine ⟨fun h => ?_, fun before hb h => ?_⟩
  · rw [exec_intEffectiveStep he, effectiveStep_raw h, hraw]
  · rw [exec_intEffectiveStep he, effectiveStep_modulated hb h, hraw]
    rfl

/-! ### The counter, and the end of a block (R286 to R288) -/

theorem pcount_add_eq (pcount : BitVec 17) (step : Nat) :
    pcount + BitVec.ofNat 17 step = BitVec.ofNat 17 (pcount.toNat + step) :=
  BitVec.eq_of_toNat_eq (by simp)

/-- The counter takes a step without overflow (R30, R285). -/
theorem pcount_advanced_toNat {pcount : BitVec 17} {step : Nat} (hp : pcount.toNat < 0x1C000) (hs : step ≤ 0x4000) :
    (BitVec.ofNat 17 (pcount.toNat + step)).toNat = pcount.toNat + step := by
  rw [BitVec.toNat_ofNat]
  omega

theorem pcount_sub_eq {pcount : BitVec 17} (h : 0x1C000 ≤ pcount.toNat) :
    pcount - 0x1C000 = BitVec.ofNat 17 (pcount.toNat - 0x1C000) := by
  have hlt := pcount.isLt
  have hblock : (0x1C000 : BitVec 17).toNat = 0x1C000 := rfl
  refine BitVec.eq_of_toNat_eq ?_
  rw [BitVec.toNat_sub, hblock, BitVec.toNat_ofNat]
  omega

/-- Below 28 samples the advance moves the counter alone; from there on the block is left (R286). -/
theorem pitchAdvance_eq {n : VoiceId} {step : Nat} {s : State} (hp : (s.voice n).pcount.toNat < 0x1C000)
    (hs : step ≤ 0x4000) :
    pitchAdvance n step s =
      let advanced := s.setVoice n { s.voice n with pcount := BitVec.ofNat 17 ((s.voice n).pcount.toNat + step) }
      if (s.voice n).pcount.toNat + step < 0x1C000 then advanced else blockBoundary n advanced := by
  have hge : 28 ≤ ((s.voice n).pcount.toNat + step) / 0x1000 ↔ ¬ (s.voice n).pcount.toNat + step < 0x1C000 := by omega
  simp only [pitchAdvance, sampleIndex_eq, pcount_add_eq, pcount_advanced_toNat hp hs, hge, ite_not]

/-- The voice as it leaves its block, before the flags of the block act (R287). -/
def leftVoice (v : Voice) : Voice := { v with pcount := v.pcount - 0x1C000, cur := v.cur + 16, isLoaded := false }

theorem blockBoundary_eq (n : VoiceId) (s : State) :
    blockBoundary n s =
      if loopEndFlag (s.voice n).blkFlags = false then s.setVoice n (leftVoice (s.voice n))
      else loopEnd n (s.setVoice n (leftVoice (s.voice n))) := by
  cases hend : loopEndFlag (s.voice n).blkFlags <;> simp only [blockBoundary, hend] <;> rfl

theorem loopEnd_setVoice (n : VoiceId) (v : Voice) (s : State) :
    loopEnd n (s.setVoice n v) =
      if loopRepeatFlag v.blkFlags then (setEndx n s).setVoice n { v with cur := cursorOf v.repeatAddr }
      else (setEndx n s).setVoice n { v with phase := .off, envLevel := 0, adsrWait := 0 } := by
  have hend (w : Voice) : (setEndx n (s.setVoice n v)).setVoice n w = (setEndx n s).setVoice n w :=
    setVoice_setVoice (setEndx n s) n v w
  simp only [loopEnd, hend, setEndx_voice, voice_setVoice_self]

/-- Settles O40: the counter stays in 17 bits before and after 28 samples are taken off, and each flag of the block picks a
branch. -/
theorem pitchAdvanceAndLoop : Obligations.PitchAdvanceAndLoop := by
  unfold Obligations.PitchAdvanceAndLoop
  intro n step s he hp hs v sum left s0 ended
  have hadvance := pitchAdvance_eq (s := s0) hp hs
  rw [exec_intPitchAdvance he, hadvance]
  have hleft (hge : ¬ sum < 0x1C000) : leftVoice { v with pcount := BitVec.ofNat 17 sum } = left := by
    have hsum : (BitVec.ofNat 17 sum).toNat = sum := pcount_advanced_toNat hp hs
    have hsub := pcount_sub_eq (pcount := BitVec.ofNat 17 sum) (by omega)
    rw [hsum] at hsub
    simp only [leftVoice, hsub, left]
  have hended : setEndx n s0 = ended := by simp only [setEndx, setMaskBit, oneHot_eq]; rfl
  by_cases hlt : sum < 0x1C000
  · exact congrArg _ ((if_pos hlt).trans (if_pos hlt).symm)
  · have hblock := blockBoundary_eq n (s0.setVoice n { v with pcount := BitVec.ofNat 17 sum })
    rw [voice_setVoice_self, hleft hlt, setVoice_setVoice, loopEnd_setVoice, hended] at hblock
    exact congrArg _ ((if_neg hlt).trans (hblock.trans (if_neg hlt).symm))

end Sys2Proof.Machine
end

section
/-! PROOFS. The voice step of a sounding voice (spec/41_voice_adpcm.md R270): its parts, each as its own micro-operation does it,
and the state in which one that meets a reserved header ends (R279). -/

namespace Sys2Proof.Machine

open Sys2Proof Sys2Proof.Safety

/-! ### The lazy decode (R270 part 2, R273) -/

theorem ensureLoaded_of_loaded {n : VoiceId} {s : State} (h : (s.voice n).isLoaded = true) : ensureLoaded n s = s :=
  if_pos h

theorem ensureLoaded_of_unloaded {n : VoiceId} {s : State} (h : (s.voice n).isLoaded = false) :
    ensureLoaded n s = decodeBlock n s := if_neg (by rw [h]; exact Bool.false_ne_true)

theorem loadBlock_draws (n : VoiceId) (s : State) : (loadBlock n s).draws = s.draws := by
  rw [loadBlock_eq, (voiceIrqCheck_step n _ _).draws]
  rfl

/-- With an accepted header, or no block to decode, the lazy decode neither faults nor draws. -/
theorem ensureLoaded_of_legal {n : VoiceId} {s : State}
    (h : (s.voice n).isLoaded = false → LegalHeader (memRead1 s (s.voice n).cur.toNat)) :
    (ensureLoaded n s).fault = s.fault ∧ (ensureLoaded n s).draws = s.draws := by
  cases hl : (s.voice n).isLoaded
  case true => rw [ensureLoaded_of_loaded hl]; exact ⟨rfl, rfl⟩
  case false =>
    rw [ensureLoaded_of_unloaded hl, decodeBlock_of_legal (h hl)]
    exact ⟨loadBlock_fault n s, loadBlock_draws n s⟩

/-- The error that a reserved header raises: bit 6 is tested before the shift (R274, R434). -/
def headerError (n : VoiceId) (s : State) : BlockError :=
  if hdrReserved (memRead1 s (s.voice n).cur.toNat) then .adpcmHeaderBit6 n (s.voice n).cur
  else .adpcmShift n (s.voice n).cur

theorem decodeBlock_of_illegal {n : VoiceId} {s : State} (h : ¬ LegalHeader (memRead1 s (s.voice n).cur.toNat)) :
    decodeBlock n s = raise (headerError n s) s := by
  unfold headerError
  cases h6 : hdrReserved (memRead1 s (s.voice n).cur.toNat)
  case true => exact decodeBlock_of_bit6 h6
  case false => exact decodeBlock_of_shift h6 (Nat.lt_of_not_le fun hshift => h ⟨h6, hshift⟩)

/-! ### The parts of the voice step -/

/-- A voice step that has to decode a block with a reserved header leaves the raise alone (R279). -/
theorem voiceStep_of_illegal (p : Params) {n : VoiceId} {s : State} (hn : NeedsDecode (s.voice n))
    (h : ¬ LegalHeader (memRead1 s (s.voice n).cur.toNat)) : (voiceStep p n s).2 = raise (headerError n s) s := by
  obtain ⟨hphase, hl⟩ := hn
  have hraise := (ensureLoaded_of_unloaded hl).trans (decodeBlock_of_illegal h)
  simp only [voiceStep, hphase, if_false, hraise]
  rfl

/-- A sounding voice whose block is there, or can be decoded, goes on to its output. -/
theorem voiceStep_of_sounding (p : Params) {n : VoiceId} {s : State} (hphase : (s.voice n).phase ≠ .off)
    (h : NoError (ensureLoaded n s)) : voiceStep p n s = voiceOutput p n (ensureLoaded n s) := by
  simp only [voiceStep, hphase, if_false, faulted_of_noError h, Bool.false_eq_true]

theorem rawSample_of_noise (p : Params) {n : VoiceId} {s : State} (h : maskBit s.g.non n = true) :
    rawSample p n s = (s16 (p.noise s.draws), { s with draws := s.draws + 1 }) := if_pos h

theorem rawSample_of_voice (p : Params) {n : VoiceId} {s : State} (h : maskBit s.g.non n = false) :
    rawSample p n s = (interpolate p (s.voice n), s) := if_neg (by rw [h]; exact Bool.false_ne_true)

/-- The effective step fits the operand of `INT PitchAdvance` (R285). -/
theorem effectiveStep_toNat (n : VoiceId) (s : State) : (BitVec.ofNat 15 (effectiveStep n s)).toNat = effectiveStep n s := by
  have h := effectiveStep_le n s
  rw [BitVec.toNat_ofNat]
  omega

/-- Settles O44: the states between the parts are those of the model, unfaulted and with nothing to return, so that each part is
its own micro-operation. -/
theorem voiceStepParts : Obligations.VoiceStepParts := by
  unfold Obligations.VoiceStepParts
  intro n s he hphase hlegal
  let d := ensureLoaded n (returning .none s)
  let raw := rawSample Config.params n d
  let step := BitVec.ofNat 15 (effectiveStep n raw.2)
  let a := pitchAdvance n (effectiveStep n raw.2) raw.2
  have hd := ensureLoaded_change n (returning .none s)
  obtain ⟨hdfault, hddraws⟩ := ensureLoaded_of_legal (s := returning .none s) hlegal
  have hraw := rawSample_change Config.params n d
  have ha := pitchAdvance_change n (effectiveStep n raw.2) raw.2
  have hed : NoError d := hdfault.trans he
  have heraw : NoError raw.2 := (rawSample_fault _ n d).trans hed
  have hea : NoError a := (pitchAdvance_fault n _ _).trans heraw
  have hresd : d.result = .none := hd.result
  have hresraw : raw.2.result = .none := hraw.result.trans hresd
  have hresa : a.result = .none := ha.result.trans hresraw
  have hnon : d.g.non = s.g.non := by rw [hd.global]; rfl
  have hstep : step.toNat = effectiveStep n raw.2 := effectiveStep_toNat n raw.2
  refine ⟨d, raw.2, a, adsrTick n a, raw.1, step, ?decode, ?sample, ?step, ?advance, ?envelope, ?whole⟩
  case decode =>
    cases hl : (s.voice n).isLoaded
    case true => exact ensureLoaded_of_loaded (s := returning .none s) hl
    case false =>
      have hdecode : d = decodeBlock n (returning .none s) := ensureLoaded_of_unloaded (s := returning .none s) hl
      simp only [Bool.false_eq_true, if_false]
      rw [exec_intDecodeBlock he, hdecode]
  case sample =>
    cases hbit : s.g.non.getLsbD n.val
    case true =>
      have hnoise : raw = _ := rawSample_of_noise Config.params (s := d) (by rw [hnon]; exact hbit)
      rw [hddraws] at hnoise
      exact ⟨congrArg Prod.fst hnoise, congrArg Prod.snd hnoise⟩
    case false =>
      have hvoice : raw = _ := rawSample_of_voice Config.params (s := d) (by rw [hnon]; exact hbit)
      refine ⟨?_, congrArg Prod.snd hvoice⟩
      rw [exec_intInterpolate hed, hvoice]
  case step => rw [exec_intEffectiveStep heraw, hstep]
  case advance => rw [exec_intPitchAdvance heraw, hstep, returning_of_result hresraw]
  case envelope => rw [exec_intAdsrTick hea, returning_of_result hresa]
  case whole =>
    have hvoice : voiceStep Config.params n (returning .none s) = voiceOutput Config.params n d :=
      voiceStep_of_sounding Config.params hphase hed
    have hefin : NoError (voiceOutput Config.params n d).2 := (voiceOutput_fault _ n d).trans hed
    rw [exec_intVoiceStep he n (by rw [hvoice]; exact hefin), hvoice]
    rfl

end Sys2Proof.Machine
end

section
/-! PROOFS. How a mix step ends (spec/43_mixer_tick.md R341, R343, spec/60_exceptions.md R430): the voice sum as a chain of voice
steps, the first of which that faults ends the mix step with the state as it is. -/

namespace Sys2Proof.Machine

open Sys2Proof Sys2Proof.Safety

/-! ### The answer of the last transaction does not touch the key latch -/

theorem latchOn_returning (kon : Mask) (r : Result) (s : State) (n : VoiceId) :
    latchOn kon (returning r s) n = returning r (latchOn kon s n) := by
  unfold latchOn
  split <;> rfl

theorem latchOff_returning (koff : Mask) (r : Result) (s : State) (n : VoiceId) :
    latchOff koff (returning r s) n = returning r (latchOff koff s n) := by
  have hoff : keyOff n (returning r s) = returning r (keyOff n s) := by
    unfold keyOff
    rw [apply_ite (returning r)]
    rfl
  unfold latchOff
  rw [hoff, apply_ite (returning r)]

theorem foldl_returning {f : State → VoiceId → State} {r : Result} (hf : ∀ s n, f (returning r s) n = returning r (f s n))
    (l : List VoiceId) (s : State) : l.foldl f (returning r s) = returning r (l.foldl f s) := by
  induction l generalizing s with
  | nil => rfl
  | cons n rest ih => rw [List.foldl_cons, List.foldl_cons, hf, ih]

theorem keyLatch_returning (r : Result) (s : State) : keyLatch (returning r s) = returning r (keyLatch s) := by
  unfold keyLatch
  rw [← foldl_returning (latchOff_returning _ r), ← foldl_returning (latchOn_returning _ r)]
  rfl

/-- Which headers a mix step will meet does not depend on the last answer. -/
theorem headersReady_returning (r : Result) (s : State) : HeadersReady (returning r s) ↔ HeadersReady s := by
  unfold HeadersReady
  rw [keyLatch_returning]
  exact Iff.rfl

/-! ### The voice sum as a chain of voice steps (R343) -/

/-- The state that the voice steps of the first `i` voices leave. -/
def voiceChain (p : Params) (s : State) (i : Nat) : State := (allVoices.take i).foldl (fun t n => (voiceStep p n t).2) s

theorem getElem_allVoices (n : VoiceId) (h : n.val < allVoices.length) : allVoices[n.val] = n := by
  simp only [allVoices, List.getElem_finRange, Fin.cast_mk, Fin.eta]

theorem voiceChain_succ (p : Params) (s : State) (n : VoiceId) :
    voiceChain p s (n.val + 1) = (voiceStep p n (voiceChain p s n.val)).2 := by
  have hn : n.val < allVoices.length := by rw [allVoices, List.length_finRange]; exact n.isLt
  rw [voiceChain, List.take_succ_eq_append_getElem hn, List.foldl_append, getElem_allVoices]
  rfl

theorem voiceChain_change (p : Params) (s : State) (i : Nat) : VoicesChange s (voiceChain p s i) :=
  foldl_voicesChange (fun t n => voiceStep_change p n t) (allVoices.take i) s

theorem sumVoices_cons_of_noError {p : Params} {n : VoiceId} {s : State} (h : NoError (voiceStep p n s).2)
    (rest : List VoiceId) (acc : Sums) :
    sumVoices p (n :: rest) acc s =
      sumVoices p rest (addVoice acc (voiceStep p n s).1 (maskBit (voiceStep p n s).2.g.eon n)) (voiceStep p n s).2 := by
  simp only [sumVoices, faulted_of_noError h, Bool.false_eq_true, if_false]

/-- The sum ends with the first voice step that faults (R430). -/
theorem sumVoices_cons_of_error {p : Params} {n : VoiceId} {s : State} (h : ¬ NoError (voiceStep p n s).2)
    (rest : List VoiceId) (acc : Sums) : sumVoices p (n :: rest) acc s = (acc, (voiceStep p n s).2) := by
  have hf : faulted (voiceStep p n s).2 = true := by
    cases hfaulted : faulted (voiceStep p n s).2
    case true => rfl
    case false => exact absurd (noError_of_not_faulted hfaulted) h
  simp only [sumVoices, hf, if_true]

theorem drop_allVoices (n : VoiceId) : allVoices.drop n.val = n :: allVoices.drop (n.val + 1) := by
  have hn : n.val < allVoices.length := by rw [allVoices, List.length_finRange]; exact n.isLt
  rw [List.drop_eq_getElem_cons hn, getElem_allVoices]

/-- While no voice step faults, the voice sum goes on from the chain with the voices that are left. -/
theorem sumVoices_eq_drop (p : Params) (s : State) (acc : Sums) {i : Nat} (hi : i ≤ 24)
    (h : ∀ j, j ≤ i → NoError (voiceChain p s j)) :
    ∃ acc', sumVoices p allVoices acc s = sumVoices p (allVoices.drop i) acc' (voiceChain p s i) := by
  induction i with
  | zero => exact ⟨acc, rfl⟩
  | succ k ih =>
    obtain ⟨acc', hacc⟩ := ih (by omega) fun j hj => h j (by omega)
    have hdrop : allVoices.drop k = _ := drop_allVoices ⟨k, hi⟩
    have hsucc : voiceChain p s (k + 1) = _ := voiceChain_succ p s ⟨k, hi⟩
    rw [hacc, hdrop, sumVoices_cons_of_noError (hsucc ▸ h (k + 1) (Nat.le_refl _)), ← hsucc]
    exact ⟨_, rfl⟩

/-- A voice sum that faults has a first voice that does, and ends with the state its voice step leaves. -/
theorem sumVoices_first_fault (p : Params) {s : State} (acc : Sums) (he : NoError s)
    (h : ¬ NoError (sumVoices p allVoices acc s).2) :
    ∃ n : VoiceId, (∀ j, j ≤ n.val → NoError (voiceChain p s j)) ∧
      ¬ NoError (voiceStep p n (voiceChain p s n.val)).2 ∧
      (sumVoices p allVoices acc s).2 = (voiceStep p n (voiceChain p s n.val)).2 := by
  have hex : ∃ i, i ≤ 24 ∧ ¬ NoError (voiceChain p s i) := by
    by_contra hall
    obtain ⟨acc', hsum⟩ := sumVoices_eq_drop p s acc (Nat.le_refl 24) fun j hj =>
      Decidable.by_contra fun hj' => hall ⟨j, hj, hj'⟩
    rw [hsum] at h
    exact hall ⟨24, Nat.le_refl _, h⟩
  obtain ⟨hi, hfault⟩ := Nat.find_spec hex
  have hbefore (j : Nat) (hj : j < Nat.find hex) : NoError (voiceChain p s j) :=
    Decidable.by_contra fun hj' => Nat.find_min hex hj ⟨by omega, hj'⟩
  generalize Nat.find hex = i at hi hfault hbefore
  cases i with
  | zero => exact absurd he hfault
  | succ k =>
    have hsucc : voiceChain p s (k + 1) = _ := voiceChain_succ p s ⟨k, hi⟩
    have hclean (j : Nat) (hj : j ≤ k) : NoError (voiceChain p s j) := hbefore j (by omega)
    obtain ⟨acc', hsum⟩ := sumVoices_eq_drop p s acc (i := k) (by omega) hclean
    have hdrop : allVoices.drop k = _ := drop_allVoices ⟨k, hi⟩
    rw [hsucc] at hfault
    refine ⟨⟨k, hi⟩, hclean, hfault, ?_⟩
    rw [hsum, hdrop, sumVoices_cons_of_error hfault]

/-! ### The end of a mix step -/

theorem mixStep_of_faulted_sum {p : Params} {s : State} (h : ¬ NoError (mixStep p s)) :
    ¬ NoError (voiceSum p (keyLatch s)).2 ∧ mixStep p s = (voiceSum p (keyLatch s)).2 := by
  unfold mixStep at h ⊢
  simp only at h ⊢
  split
  next hf => exact ⟨fun hn => Bool.false_ne_true ((faulted_of_noError hn).symm.trans hf), rfl⟩
  next hf =>
    rw [if_neg hf, NoError, mixOutput_fault] at h
    exact absurd (noError_of_not_faulted (by simpa using hf)) h

/-- A voice step that does not fault, as its micro-operation, between two states of the chain. -/
theorem exec_intVoiceStep_chain {s : State} (hres : s.result = .none) (n : VoiceId)
    (h : NoError (voiceChain Config.params s n.val)) (h' : NoError (voiceChain Config.params s (n.val + 1))) :
    exec (.intVoiceStep n) (voiceChain Config.params s n.val) =
      .next (returning (.pair (voiceStep Config.params n (voiceChain Config.params s n.val)).1.1
          (voiceStep Config.params n (voiceChain Config.params s n.val)).1.2)
        (voiceChain Config.params s (n.val + 1))) := by
  have hquiet := returning_of_result ((voiceChain_change Config.params s n.val).result.trans hres)
  rw [voiceChain_succ] at h' ⊢
  rw [exec_intVoiceStep h n (by rw [hquiet]; exact h'), hquiet]

/-- Settles O49: the mix step completes exactly when the voice sum does; one that does not ends with the first voice step of the
chain that faults, which is the raise of that voice's decode. -/
theorem mixStepCompletesExactly : Obligations.MixStepCompletesExactly := by
  unfold Obligations.MixStepCompletesExactly
  intro s he
  have hiff : NoError (mixStep Config.params (returning .none s)) ↔ HeadersReady s :=
    (mixStep_noError_iff Config.params (s := returning .none s) he).trans (headersReady_returning .none s)
  refine ⟨⟨_, exec_intMixStep he, hiff⟩, fun hready => ?_⟩
  let s0 := keyLatch (returning .none s)
  let chain := voiceChain Config.params s0
  have hres : s0.result = .none := (keyLatch_change (returning .none s)).result
  have he0 : NoError s0 := (keyLatch_fault (returning .none s)).trans he
  obtain ⟨hsum, hmix⟩ := mixStep_of_faulted_sum (mt hiff.1 hready)
  obtain ⟨n, hclean, hfault, hend⟩ := sumVoices_first_fault Config.params Sums.zero he0 hsum
  have hz : NoError (chain n.val) := hclean n.val (Nat.le_refl _)
  obtain ⟨hneeds, hillegal⟩ := Classical.not_imp.1 (mt (voiceStep_noError_iff Config.params n hz).2 hfault)
  refine ⟨n, fun i => chain i.val, fun m => (voiceStep Config.params m (chain m.val)).1, exec_intKeyLatch he,
    fun m hm => exec_intVoiceStep_chain hres m (hclean _ (Nat.le_of_lt hm)) (hclean _ hm), hz, hneeds, hillegal, ?_⟩
  have hquiet : (chain n.val).result = .none := (voiceChain_change Config.params s0 n.val).result.trans hres
  have hraise : mixStep Config.params (returning .none s) = raise (headerError n (chain n.val)) (chain n.val) :=
    hmix.trans (hend.trans (voiceStep_of_illegal Config.params hneeds hillegal))
  rw [exec_intMixStep he, hraise, ← returning_of_result (s := raise _ _) hquiet]
  rfl

end Sys2Proof.Machine
end

section
/-! PROOFS. The envelope generator (spec/42_voice_adsr.md R310 to R321): one call on a voice record, phase by phase, and the way
of a releasing voice to Off. -/

namespace Sys2Proof.Machine

open Sys2Proof Sys2Proof.Safety

/-! ### The envelope fields as numbers (R119, R120) -/

theorem toNat_extractLsb'_eq (v : Half) (i w : Nat) : (v.extractLsb' i w).toNat = v.toNat / 2 ^ i % 2 ^ w := by
  rw [BitVec.extractLsb'_toNat, Nat.shiftRight_eq_div_pow]

theorem attackShift_eq (lo : Half) : attackShift lo = lo.toNat / 0x400 % 0x20 := toNat_extractLsb'_eq lo 10 5

theorem attackStep_eq (lo : Half) : attackStep lo = lo.toNat / 0x100 % 4 := toNat_extractLsb'_eq lo 8 2

theorem decayShift_eq (lo : Half) : decayShift lo = lo.toNat / 0x10 % 0x10 := toNat_extractLsb'_eq lo 4 4

theorem sustainLevel_eq (lo : Half) : sustainLevel lo = lo.toNat % 0x10 := by
  simp [sustainLevel]

theorem sustainShift_eq (hi : Half) : sustainShift hi = hi.toNat / 0x100 % 0x20 := toNat_extractLsb'_eq hi 8 5

theorem sustainStep_eq (hi : Half) : sustainStep hi = hi.toNat / 0x40 % 4 := toNat_extractLsb'_eq hi 6 2

theorem releaseShift_eq (hi : Half) : releaseShift hi = hi.toNat % 0x20 := by
  simp [releaseShift]

theorem getLsbD_eq_decide (v : Half) (i : Nat) : v.getLsbD i = decide (v.toNat / 2 ^ i % 2 = 1) := by
  rw [BitVec.getLsbD, Nat.testBit_eq_decide_div_mod_eq]

/-- The top bit of a register is what is left of it above 15 bits. -/
theorem getLsbD_15_iff (v : Half) : v.getLsbD 15 = true ↔ v.toNat / 0x8000 = 1 := by
  have hv := v.isLt
  rw [getLsbD_eq_decide, decide_eq_true_iff]
  omega

theorem attackExp_iff (lo : Half) : attackExp lo = true ↔ lo.toNat / 0x8000 = 1 := getLsbD_15_iff lo

theorem sustainExp_iff (hi : Half) : sustainExp hi = true ↔ hi.toNat / 0x8000 = 1 := getLsbD_15_iff hi

theorem sustainDec_iff (hi : Half) : sustainDec hi = true ↔ hi.toNat / 0x4000 % 2 = 1 := by
  rw [sustainDec, getLsbD_eq_decide, decide_eq_true_iff]
  rfl

/-! ### The step of a phase (R313 to R315) -/

/-- A step that is neither divided nor scaled: a linear phase. -/
theorem scaledStep_linear {r : RateParams} (h : r.exponential = false) (level : Int) :
    scaledStep r level = r.stepBase * 2 ^ (11 - r.shift) := by
  simp [scaledStep, rateStep, h]

/-- An exponential decrease scales the step by the level (R315). -/
theorem scaledStep_decrease {r : RateParams} (he : r.exponential = true) (hd : r.decreasing = true) (level : Int) :
    scaledStep r level = r.stepBase * 2 ^ (11 - r.shift) * level / 2 ^ 15 := by
  simp [scaledStep, rateStep, sar, he, hd]

/-- An exponential increase is four times slower above 0x6000 (R314). -/
theorem scaledStep_increase {r : RateParams} (he : r.exponential = true) (hd : r.decreasing = false) (level : Int) :
    scaledStep r level =
      if 0x6000 < level then r.stepBase * 2 ^ (11 - r.shift) / 4 else r.stepBase * 2 ^ (11 - r.shift) := by
  simp [scaledStep, rateStep, sar, he, hd]

/-! ### One call on a voice record (R310) -/

theorem adsrVoice_of_off {v : Voice} (h : v.phase = .off) : adsrVoice v = { v with envLevel := 0 } := if_pos h

theorem adsrVoice_of_waiting {v : Voice} (h : v.phase ≠ .off) (hw : 0 < v.adsrWait) :
    adsrVoice v = { v with adsrWait := v.adsrWait - 1 } := by
  rw [adsrVoice, if_neg h, if_pos hw]

theorem adsrVoice_of_ready {v : Voice} (h : v.phase ≠ .off) (hw : v.adsrWait = 0) : adsrVoice v = adsrUpdate v := by
  rw [adsrVoice, if_neg h, if_neg (by omega)]

/-- The level a level update brings the voice to (R313 to R316). -/
def updatedLevel (v : Voice) : Int :=
  clampLevel (s16 v.envLevel + scaledStep (phaseParams v.phase v.adsrLo v.adsrHi) (s16 v.envLevel))

/-- The voice after a level update that stays in its phase. -/
def updatedVoice (v : Voice) : Voice :=
  { v with
    envLevel := u16 (updatedLevel v)
    adsrWait := rateCycles (phaseParams v.phase v.adsrLo v.adsrHi).shift - 1 }

theorem adsrUpdate_eq (v : Voice) :
    adsrUpdate v =
      if reachedTarget (phaseParams v.phase v.adsrLo v.adsrHi) (updatedLevel v) && v.phase != .sustain then
        nextPhase (updatedVoice v)
      else updatedVoice v := rfl

theorem adsrUpdate_of_attack {v : Voice} (h : v.phase = .attack) :
    adsrUpdate v =
      if 0x7FFF ≤ updatedLevel v then { v with envLevel := u16 (updatedLevel v), phase := .decay, adsrWait := 0 }
      else { v with envLevel := u16 (updatedLevel v), adsrWait := 2 ^ (attackShift v.adsrLo - 11) - 1 } := by
  rw [adsrUpdate_eq]
  simp [updatedVoice, nextPhase, reachedTarget, phaseParams, rateCycles, h]

theorem adsrUpdate_of_decay {v : Voice} (h : v.phase = .decay) :
    adsrUpdate v =
      if updatedLevel v ≤ ((sustainLevel v.adsrLo + 1) * 0x800 : Nat) then
        { v with envLevel := u16 (updatedLevel v), phase := .sustain, adsrWait := 0 }
      else { v with envLevel := u16 (updatedLevel v), adsrWait := 2 ^ (decayShift v.adsrLo - 11) - 1 } := by
  rw [adsrUpdate_eq]
  simp [updatedVoice, nextPhase, reachedTarget, phaseParams, rateCycles, h]

/-- Sustain has no target: it stays (R319). -/
theorem adsrUpdate_of_sustain {v : Voice} (h : v.phase = .sustain) :
    adsrUpdate v = { v with envLevel := u16 (updatedLevel v), adsrWait := 2 ^ (sustainShift v.adsrHi - 11) - 1 } := by
  rw [adsrUpdate_eq]
  simp [updatedVoice, phaseParams, rateCycles, h]

theorem adsrUpdate_of_release {v : Voice} (h : v.phase = .release) :
    adsrUpdate v =
      if updatedLevel v ≤ 0 then { v with envLevel := 0, phase := .off, adsrWait := 0 }
      else { v with envLevel := u16 (updatedLevel v), adsrWait := 2 ^ (releaseShift v.adsrHi - 11) - 1 } := by
  rw [adsrUpdate_eq]
  simp [updatedVoice, nextPhase, reachedTarget, phaseParams, rateCycles, h]

/-! The level an update brings, phase by phase. -/

theorem updatedLevel_of_attack {v : Voice} (h : v.phase = .attack) :
    updatedLevel v =
      let full : Int := (7 - attackStep v.adsrLo) * 2 ^ (11 - attackShift v.adsrLo)
      clampLevel (s16 v.envLevel + if attackExp v.adsrLo = true ∧ 0x6000 < s16 v.envLevel then full / 4 else full) := by
  rw [updatedLevel, h]
  cases he : attackExp v.adsrLo
  case false => rw [scaledStep_linear he]; simp [phaseParams]
  case true => rw [scaledStep_increase he rfl]; simp [phaseParams]

theorem updatedLevel_of_decay {v : Voice} (h : v.phase = .decay) :
    updatedLevel v = clampLevel (s16 v.envLevel + -8 * 2 ^ (11 - decayShift v.adsrLo) * s16 v.envLevel / 2 ^ 15) := by
  rw [updatedLevel, h, scaledStep_decrease rfl rfl]
  rfl

theorem updatedLevel_of_release {v : Voice} (h : v.phase = .release) :
    updatedLevel v = clampLevel (s16 v.envLevel + -8 * 2 ^ (11 - releaseShift v.adsrHi) * s16 v.envLevel / 2 ^ 15) := by
  rw [updatedLevel, h, scaledStep_decrease rfl rfl]
  rfl

theorem updatedLevel_of_sustain {v : Voice} (h : v.phase = .sustain) :
    updatedLevel v =
      let field : Int := sustainStep v.adsrHi
      let full : Int := (if sustainDec v.adsrHi then -8 + field else 7 - field) * 2 ^ (11 - sustainShift v.adsrHi)
      clampLevel (s16 v.envLevel +
        if sustainExp v.adsrHi = false then full
        else if sustainDec v.adsrHi then full * s16 v.envLevel / 2 ^ 15
        else if 0x6000 < s16 v.envLevel then full / 4
        else full) := by
  rw [updatedLevel, h]
  cases he : sustainExp v.adsrHi
  case false => rw [scaledStep_linear he]; rfl
  case true =>
    cases hd : sustainDec v.adsrHi
    case true => rw [scaledStep_decrease he hd]; simp [phaseParams, hd]
    case false => rw [scaledStep_increase he hd]; simp [phaseParams, hd]

/-! ### The micro-operation -/

/-- `INT AdsrTick` writes the record that one call leaves, and nothing else. -/
theorem exec_intAdsrTick_of_voice {s : State} (he : NoError s) {n : VoiceId} {v : Voice} (h : adsrVoice (s.voice n) = v) :
    exec (.intAdsrTick n) s = .next ((returning .none s).setVoice n v) := by
  rw [exec_intAdsrTick he, adsrTick, returning_voice, h]

/-- Settles O41: each phase is one branch of the call, with the fields of its register as numbers. -/
theorem adsrTickByPhase : Obligations.AdsrTickByPhase := by
  unfold Obligations.AdsrTickByPhase
  intro n s he v lo hi level clamped becomes
  have hready {v' : Voice} (hp : v.phase ≠ .off) (hw : v.adsrWait = 0) (h : adsrUpdate v = v') : becomes v' :=
    exec_intAdsrTick_of_voice he ((adsrVoice_of_ready hp hw).trans h)
  refine ⟨fun hp => exec_intAdsrTick_of_voice he (adsrVoice_of_off hp),
    fun hp hw => exec_intAdsrTick_of_voice he (adsrVoice_of_waiting hp hw), fun hp hw => ?attack, fun hp hw => ?decay,
    fun hp hw => ?sustain, fun hp hw => ?release⟩
  case attack =>
    refine hready (by rw [hp]; decide) hw ?_
    simp only [adsrUpdate_of_attack hp, updatedLevel_of_attack hp, attackShift_eq, attackStep_eq, attackExp_iff]
    rfl
  case decay =>
    refine hready (by rw [hp]; decide) hw ?_
    simp only [adsrUpdate_of_decay hp, updatedLevel_of_decay hp, decayShift_eq, sustainLevel_eq]
    rfl
  case sustain =>
    refine hready (by rw [hp]; decide) hw ?_
    have hexp : sustainExp v.adsrHi = false ↔ hi / 0x8000 = 0 := by
      have hlt : hi < 0x10000 := v.adsrHi.isLt
      rw [← Bool.not_eq_true, sustainExp_iff]
      omega
    simp only [adsrUpdate_of_sustain hp, updatedLevel_of_sustain hp, sustainShift_eq, sustainStep_eq, sustainDec_iff, hexp]
    rfl
  case release =>
    refine hready (by rw [hp]; decide) hw ?_
    simp only [adsrUpdate_of_release hp, updatedLevel_of_release hp, releaseShift_eq]
    rfl

/-! ### A run of calls (R312) -/

/-- A run of the generator is the calls on the voice record one after the other: no call faults. -/
theorem adsrTicks_voice (n : VoiceId) (k : Nat) {s : State} (he : NoError s) :
    (adsrTicks n k s).voice n = adsrVoice^[k] (s.voice n) := by
  induction k generalizing s with
  | zero => rfl
  | succ k ih =>
    have hcall : adsrTicks n (k + 1) s = adsrTicks n k (adsrTick n (returning .none s)) := by
      simp only [adsrTicks, exec_intAdsrTick he]
    have he' : NoError (adsrTick n (returning .none s)) := he
    rw [hcall, ih he', adsrTick_voice, returning_voice, Function.iterate_succ_apply]

/-- The calls that find the wait counter positive only count it down (R312). -/
theorem adsrVoice_iterate_of_waiting {v : Voice} (h : v.phase ≠ .off) {k : Nat} (hk : k ≤ v.adsrWait) :
    adsrVoice^[k] v = { v with adsrWait := v.adsrWait - k } := by
  induction k with
  | zero => rfl
  | succ k ih =>
    rw [Function.iterate_succ_apply', ih (by omega)]
    exact adsrVoice_of_waiting (v := { v with adsrWait := v.adsrWait - k }) h (Nat.sub_pos_of_lt hk)

/-- The call after the wait updates the level. -/
theorem adsrVoice_iterate_wait_succ {v : Voice} (h : v.phase ≠ .off) :
    adsrVoice^[v.adsrWait + 1] v = adsrUpdate { v with adsrWait := 0 } := by
  rw [Function.iterate_succ_apply', adsrVoice_iterate_of_waiting h (Nat.le_refl _), Nat.sub_self]
  exact adsrVoice_of_ready (v := { v with adsrWait := 0 }) h rfl

/-! ### Release (R315, R317) -/

/-- The floor of an exponential decrease takes at least one unit off a positive level (R315). -/
theorem updatedLevel_release_le {v : Voice} (h : v.phase = .release) (hv : v.envLevel.toNat ≤ 0x7FFF) :
    updatedLevel v ≤ (v.envLevel.toNat - 1 : Nat) := by
  have hlevel : s16 v.envLevel = v.envLevel.toNat := BitVec.toInt_eq_toNat_of_lt (by omega)
  rw [updatedLevel_of_release h, hlevel]
  rcases Nat.eq_zero_or_pos v.envLevel.toNat with hzero | hpos
  · simp [hzero, clampLevel]
  · have hneg : -8 * 2 ^ (11 - releaseShift v.adsrHi) * (v.envLevel.toNat : Int) < 0 :=
      Int.mul_neg_of_neg_of_pos (Int.mul_neg_of_neg_of_pos (by decide) (Int.pow_pos (by decide))) (by omega)
    have hstep := Int.ediv_neg_of_neg_of_pos hneg (b := 2 ^ 15) (by decide)
    unfold clampLevel
    omega

/-- The level update of a releasing voice takes it to Off or to a lower level, still releasing and in range. -/
theorem adsrUpdate_release_cases {v : Voice} (hv : VoiceOk v) (h : v.phase = .release) :
    (adsrUpdate v).phase = .off ∨
      (adsrUpdate v).phase = .release ∧ (adsrUpdate v).envLevel.toNat < v.envLevel.toNat := by
  have hle := updatedLevel_release_le h hv.level
  have hlevel := hv.level
  rw [adsrUpdate_of_release h]
  split
  next => exact .inl rfl
  next hpos =>
    refine .inr ⟨h, ?_⟩
    show (u16 (updatedLevel v)).toNat < v.envLevel.toNat
    rw [u16_toNat (by omega) (by omega)]
    omega

/-- From a level below `m`, `m` level updates bring a releasing voice to Off, each after fewer than 2^20 calls that wait. -/
theorem adsrVoice_release_reaches_off (m : Nat) {v : Voice} (hv : VoiceOk v) (h : v.phase = .release)
    (hm : v.envLevel.toNat < m) : ∃ k, k ≤ m * 2 ^ 20 ∧ (adsrVoice^[k] v).phase = .off := by
  induction m generalizing v with
  | zero => omega
  | succ m ih =>
    have hwait := hv.wait
    have hon : v.phase ≠ .off := by rw [h]; decide
    have hupdate := adsrVoice_iterate_wait_succ hon
    have hready : VoiceOk { v with adsrWait := 0 } := ⟨hv.level, hv.cursor, hv.position, Nat.two_pow_pos 20⟩
    rcases adsrUpdate_release_cases hready h with hoff | ⟨hrelease, hlower⟩
    · exact ⟨v.adsrWait + 1, by omega, by rw [hupdate]; exact hoff⟩
    · have hok : VoiceOk (adsrUpdate { v with adsrWait := 0 }) :=
        adsrVoice_of_ready (v := { v with adsrWait := 0 }) hon rfl ▸ adsrVoice_ok hready
      obtain ⟨k, hk, hoff⟩ := ih hok hrelease (Nat.lt_of_lt_of_le hlower (Nat.le_of_lt_succ hm))
      exact ⟨k + (v.adsrWait + 1), by omega, by rw [Function.iterate_add_apply, hupdate]; exact hoff⟩

/-- Settles O42: one level update for each unit of the level and one more, at the level 0. -/
theorem releaseReachesOff : Obligations.ReleaseReachesOff := by
  unfold Obligations.ReleaseReachesOff
  intro n s he hv hrelease
  obtain ⟨k, hk, hoff⟩ := adsrVoice_release_reaches_off _ hv hrelease (Nat.lt_succ_self _)
  exact ⟨k, hk, by rw [adsrTicks_voice n k he]; exact hoff⟩

end Sys2Proof.Machine
end

section
/-! PROOFS. The phase state machine (spec/42_voice_adsr.md R317, R319, R320): every operation either leaves the phase of
every voice as it was, or moves it along the edges of R320 that are its own. -/

namespace Sys2Proof.Machine

open Sys2Proof Sys2Proof.Safety

/-! ### Operations that leave every phase -/

/-- The operation leaves the phase of every voice as it was, in every state. -/
def KeepsPhases (f : State → State) : Prop := ∀ s (n : VoiceId), ((f s).voice n).phase = (s.voice n).phase

theorem keepsPhases_of_voices {f : State → State} (h : ∀ s, (f s).voices = s.voices) : KeepsPhases f := fun s n =>
  congrArg Voice.phase (voice_of_voices (h s) n)

theorem keepsPhases_of_onlyAnswers {f : State → State} (h : ∀ s, OnlyAnswers s (f s)) : KeepsPhases f :=
  keepsPhases_of_voices fun s => (h s).voices

/-- A rule of voice `m` that leaves the phase of that voice leaves every phase. -/
theorem keepsPhases_of_change {m : VoiceId} {f : State → State} (hc : ∀ s, VoiceChange m s (f s))
    (h : ∀ s, ((f s).voice m).phase = (s.voice m).phase) : KeepsPhases f := by
  intro s n
  by_cases hn : n = m
  · rw [hn, h]
  · rw [(hc s).others n hn]

@[simp] theorem readHalf_keepsPhases (p : Params) (r : Reg) : KeepsPhases (readHalf p r) :=
  keepsPhases_of_onlyAnswers (readHalf_onlyAnswers p r)

@[simp] theorem unimplemented_keepsPhases (p : Params) (kind : AccessKind) (off : Offset) (zero : Result) :
    KeepsPhases (unimplemented p kind off zero) := keepsPhases_of_onlyAnswers (unimplemented_onlyAnswers p kind off zero)

@[simp] theorem readByteAt_keepsPhases (p : Params) (off : Offset) : KeepsPhases (readByteAt p off) :=
  keepsPhases_of_onlyAnswers (readByteAt_onlyAnswers p off)

@[simp] theorem readWordAt_keepsPhases (p : Params) (off : Offset) : KeepsPhases (readWordAt p off) :=
  keepsPhases_of_onlyAnswers (readWordAt_onlyAnswers p off)

@[simp] theorem returning_keepsPhases (r : State → Result) : KeepsPhases (fun s => returning (r s) s) := fun _ _ => rfl

@[simp] theorem writeReg_keepsPhases {r : Reg} (hr : r ≠ .spucnt) (v : Half) : KeepsPhases (fun s => writeReg v s r) :=
  writeReg_phase hr v

@[simp] theorem dmaRead_keepsPhases : KeepsPhases dmaRead := keepsPhases_of_voices fun s => (dmaRead_change s).voices

@[simp] theorem dmaWrite_keepsPhases (w : Word) : KeepsPhases (dmaWrite w) :=
  keepsPhases_of_voices fun s => (dmaWrite_change w s).voices

@[simp] theorem cdPush_keepsPhases (l r : Half) : KeepsPhases (cdPush l r) := fun _ _ => rfl

@[simp] theorem captureWrite_keepsPhases (cl cr : Half) : KeepsPhases (captureWrite cl cr) := fun _ _ => rfl

@[simp] theorem outputAppend_keepsPhases (l r : Half) : KeepsPhases (outputAppend l r) :=
  keepsPhases_of_voices fun s => by rw [outputAppend_eq]

@[simp] theorem finalMix_keepsPhases (dryL dryR : Int) :
    KeepsPhases (fun s => returningPair (finalMix dryL dryR s, s)) :=
  keepsPhases_of_onlyAnswers fun s => returningPair_onlyAnswers (finalMix dryL dryR s, s)

@[simp] theorem reverb_keepsPhases (inL inR : Int) : KeepsPhases (fun s => returningPair (reverb inL inR s)) :=
  keepsPhases_of_voices fun s => (returningPair_onlyAnswers _).voices.trans (reverb_change inL inR s).voices

@[simp] theorem decodeBlock_keepsPhases (m : VoiceId) : KeepsPhases (decodeBlock m) := by
  refine keepsPhases_of_change (decodeBlock_change m) fun s => ?_
  rcases decodeBlock_cases m s with ⟨_, heq⟩ | ⟨_, e, heq, _⟩ <;> rw [heq]
  · rw [loadBlock_voice]; rfl
  · rfl

theorem ensureLoaded_keepsPhases (m : VoiceId) : KeepsPhases (ensureLoaded m) := by
  intro s n
  unfold ensureLoaded
  split
  · rfl
  · exact decodeBlock_keepsPhases m s n

theorem rawSample_keepsPhases (p : Params) (m : VoiceId) : KeepsPhases (fun s => (rawSample p m s).2) := fun s n =>
  congrArg Voice.phase (rawSample_voice p m n s)

/-- A word write reaches the control register at 0xDA8 alone: with its high half, for the register stands at 0xDAA. -/
theorem offset_of_word_at_spucnt {off : Offset} {r0 r1 : Reg} (h4 : off.toNat % 4 = 0) (h0 : regAt off = some r0)
    (h1 : regAt (off + 2) = some r1) : r0 ≠ .spucnt ∧ (r1 = .spucnt → off = 0xDA8) := by
  have hlow := offset_of_regAt h0
  have hhigh := offset_of_regAt h1
  have h2 : (2 : Offset).toNat = 2 := rfl
  have hcnt : Reg.spucnt.offset = 0xDAA := rfl
  rw [BitVec.toNat_add, h2] at hhigh
  constructor
  · rintro rfl
    omega
  · rintro rfl
    exact BitVec.eq_of_toNat_eq (show off.toNat = 0xDA8 by omega)

theorem writeWordAt_keepsPhases (p : Params) {off : Offset} (hoff : off ≠ 0xDA8) (w : Word) :
    KeepsPhases (writeWordAt p off w) := by
  intro s n
  rcases writeWordAt_cases p off w s with ha | ⟨r0, r1, h4, h0, h1, heq⟩
  · rw [voice_of_voices ha.voices]
  · obtain ⟨hr0, hr1⟩ := offset_of_word_at_spucnt h4 h0 h1
    have hlow := writeReg_phase hr0 (wordLo w) s n
    rcases heq with heq | heq <;> rw [heq]
    · exact hlow
    · rw [writeReg_phase fun h => hoff (hr1 h), hlow]

/-! ### Operations that move phases -/

/-- Where the operation changes the phase of a voice `n`, from `p` to `q`, it makes a move `R n p q`. -/
def PhaseMoves (f : State → State) (R : VoiceId → Phase → Phase → Prop) : Prop :=
  ∀ s (n : VoiceId), ((f s).voice n).phase ≠ (s.voice n).phase → R n (s.voice n).phase ((f s).voice n).phase

/-- The moves of a rule of voice `m` are moves of that voice. -/
theorem phaseMoves_of_change {m : VoiceId} {f : State → State} {R : Phase → Phase → Prop}
    (hc : ∀ s, VoiceChange m s (f s))
    (h : ∀ s, ((f s).voice m).phase = (s.voice m).phase ∨ R (s.voice m).phase ((f s).voice m).phase) :
    PhaseMoves f fun n p q => m = n ∧ R p q := by
  intro s n hne
  by_cases hn : n = m
  · subst hn
    exact ⟨rfl, (h s).resolve_left hne⟩
  · rw [(hc s).others n hn] at hne
    exact absurd rfl hne

theorem PhaseMoves.mono {f : State → State} {R R' : VoiceId → Phase → Phase → Prop} (h : PhaseMoves f R)
    (hR : ∀ n p q, R n p q → R' n p q) : PhaseMoves f R' := fun s n hne => hR _ _ _ (h s n hne)

/-- Of two operations that each move a phase into `Q` only, the phase after both is in `Q` or the first one. -/
theorem PhaseMoves.comp {f g : State → State} {Q : Phase → Prop} (hf : PhaseMoves f fun _ _ q => Q q)
    (hg : PhaseMoves g fun _ _ q => Q q) : PhaseMoves (fun s => g (f s)) fun _ _ q => Q q := by
  intro s n hne
  by_cases hsame : ((g (f s)).voice n).phase = ((f s).voice n).phase
  · rw [hsame] at hne ⊢
    exact hf s n hne
  · exact hg (f s) n hsame

theorem phaseMoves_foldl {f : State → VoiceId → State} {Q : Phase → Prop}
    (hf : ∀ m, PhaseMoves (fun s => f s m) fun _ _ q => Q q) (l : List VoiceId) :
    PhaseMoves (fun s => l.foldl f s) fun _ _ q => Q q := by
  induction l with
  | nil => exact fun _ _ hne => absurd rfl hne
  | cons m rest ih => exact (hf m).comp ih

/-- A transaction in the frame of R430 makes the moves of its operation: one that is refused makes none. -/
theorem PhaseMoves.of_exec {i : Instr} {f : State → State} {R : VoiceId → Phase → Phase → Prop} (h : PhaseMoves f R)
    (hexec : ∀ s, exec i s = .next (transact f s)) {s t : State} {n : VoiceId} (ht : exec i s = .next t)
    (hne : (t.voice n).phase ≠ (s.voice n).phase) : R n (s.voice n).phase (t.voice n).phase := by
  rw [hexec s] at ht
  cases ht
  by_cases he : NoError s
  · rw [transact_of_noError f he] at hne ⊢
    exact h (returning .none s) n hne
  · rw [transact_of_error f he] at hne
    exact absurd rfl hne

/-! Reset, and the control register (R190, R471). -/

theorem resetState_phase (s : State) (n : VoiceId) : ((resetState s).voice n).phase = .off := by
  simp [resetState, State.voice, State.reset, Voice.reset]

theorem writeSpucnt_phase (v : Half) (s : State) (n : VoiceId) :
    ((writeSpucnt v s).voice n).phase = if v.getLsbD 15 then (s.voice n).phase else .off := by
  rw [writeSpucnt_voice]
  show (if v.getLsbD 15 then _ else _ : Voice).phase = _
  split <;> rfl

theorem writeSpucnt_moves (v : Half) : PhaseMoves (writeSpucnt v) fun _ _ q => v.getLsbD 15 = false ∧ q = .off := by
  intro s n hne
  rw [writeSpucnt_phase] at hne ⊢
  cases hv : v.getLsbD 15
  case false => exact ⟨rfl, rfl⟩
  case true => simp [hv] at hne

/-- The word write at 0xDA8 writes the port, which moves nothing, and then the control register. -/
theorem writeWordAt_moves (p : Params) (w : Word) :
    PhaseMoves (writeWordAt p 0xDA8 w) fun _ _ q => w.getLsbD 31 = false ∧ q = .off := by
  intro s n hne
  have hbit : (wordHi w).getLsbD 15 = w.getLsbD 31 := by simp [wordHi]
  rcases writeWordAt_cases p 0xDA8 w s with ha | ⟨r0, r1, _, h0, h1, heq⟩
  · rw [voice_of_voices ha.voices] at hne
    exact absurd rfl hne
  · have hport : some Reg.xferPort = some r0 := (regAt_offset .xferPort).symm.trans h0
    have hcnt : some Reg.spucnt = some r1 := (regAt_offset .spucnt).symm.trans h1
    cases hport
    cases hcnt
    have hlow := writeReg_phase (r := .xferPort) (by decide) (wordLo w) s n
    rcases heq with heq | heq <;> rw [heq] at hne ⊢
    · exact absurd hlow hne
    · rw [← hbit]
      exact writeSpucnt_moves (wordHi w) _ n (by rw [hlow]; exact hne)

/-! Key on, key off, the key latch (R271, R272, R342). -/

theorem keyOn_moves (m : VoiceId) : PhaseMoves (keyOn m) fun n _ q => m = n ∧ q = .attack :=
  phaseMoves_of_change (R := fun _ q => q = .attack) (keyOn_change m) fun s => .inr (by rw [keyOn_voice])

theorem keyOff_moves (m : VoiceId) : PhaseMoves (keyOff m) fun n p q => m = n ∧ p ≠ .off ∧ q = .release := by
  refine phaseMoves_of_change (R := fun p q => p ≠ .off ∧ q = .release) (keyOff_change m) fun s => ?_
  rw [keyOff_voice]
  split
  next => exact .inl rfl
  next hon => exact .inr ⟨hon, rfl⟩

theorem latchOn_moves (kon : Mask) (m : VoiceId) :
    PhaseMoves (fun s => latchOn kon s m) fun _ _ q => q = .attack ∨ q = .release := by
  cases hbit : maskBit kon m
  case false => exact fun s n hne => absurd (by simp [latchOn, hbit]) hne
  case true =>
    have hon : (fun s => latchOn kon s m) = keyOn m := funext fun _ => if_pos hbit
    rw [hon]
    exact (keyOn_moves m).mono fun _ _ _ h => .inl h.2

theorem latchOff_moves (koff : Mask) (m : VoiceId) :
    PhaseMoves (fun s => latchOff koff s m) fun _ _ q => q = .attack ∨ q = .release := by
  cases hbit : maskBit koff m
  case false => exact fun s n hne => absurd (by simp [latchOff, hbit]) hne
  case true =>
    have hoff : (fun s => latchOff koff s m) = keyOff m := funext fun _ => if_pos hbit
    rw [hoff]
    exact (keyOff_moves m).mono fun _ _ _ h => .inr h.2.2

theorem keyLatch_moves : PhaseMoves keyLatch fun _ _ q => q = .attack ∨ q = .release := by
  intro s n hne
  have hlatch := (phaseMoves_foldl (latchOn_moves s.g.konPend) allVoices).comp
    (phaseMoves_foldl (latchOff_moves s.g.koffPend) allVoices)
  exact hlatch { s with g := { s.g with konPend := 0, koffPend := 0 } } n hne

/-! The end of a block (R288). -/

theorem blockBoundary_phase (m : VoiceId) (s : State) :
    ((blockBoundary m s).voice m).phase = (s.voice m).phase ∨ ((blockBoundary m s).voice m).phase = .off := by
  rw [blockBoundary_eq]
  split
  · exact .inl (by rw [voice_setVoice_self]; rfl)
  · rw [loopEnd_voice, voice_setVoice_self]
    split
    · exact .inl rfl
    · exact .inr rfl

theorem pitchAdvance_phase (m : VoiceId) (step : Nat) (s : State) :
    ((pitchAdvance m step s).voice m).phase = (s.voice m).phase ∨ ((pitchAdvance m step s).voice m).phase = .off := by
  unfold pitchAdvance
  simp only
  split
  · have h := blockBoundary_phase m (s.setVoice m { s.voice m with pcount := (s.voice m).pcount + BitVec.ofNat 17 step })
    rwa [voice_setVoice_self] at h
  · exact .inl (by rw [voice_setVoice_self])

theorem pitchAdvance_moves (m : VoiceId) (step : Nat) : PhaseMoves (pitchAdvance m step) fun n _ q => m = n ∧ q = .off :=
  phaseMoves_of_change (R := fun _ q => q = .off) (pitchAdvance_change m step) (pitchAdvance_phase m step)

/-! The envelope generator (R317, R319). -/

/-- The edges of R320 along which the envelope generator moves a voice. -/
def EnvelopeMove (p q : Phase) : Prop :=
  p = .attack ∧ q = .decay ∨ p = .decay ∧ q = .sustain ∨ p = .release ∧ q = .off

theorem nextPhase_phase (v : Voice) : (nextPhase v).phase = v.phase ∨ EnvelopeMove v.phase (nextPhase v).phase := by
  unfold nextPhase EnvelopeMove
  cases h : v.phase <;> simp [h]

theorem adsrVoice_phase (v : Voice) : (adsrVoice v).phase = v.phase ∨ EnvelopeMove v.phase (adsrVoice v).phase := by
  unfold adsrVoice
  split
  · exact .inl rfl
  · split
    · exact .inl rfl
    · rw [adsrUpdate_eq]
      split
      · exact nextPhase_phase (updatedVoice v)
      · exact .inl rfl

theorem adsrTick_moves (m : VoiceId) : PhaseMoves (adsrTick m) fun n p q => m = n ∧ EnvelopeMove p q :=
  phaseMoves_of_change (adsrTick_change m) fun s => by
    rw [adsrTick_voice]
    exact adsrVoice_phase (s.voice m)

/-! The voice step (R270). -/

/-- The edges of R320 along which a voice step moves a sounding voice. -/
def VoiceStepMove (p q : Phase) : Prop :=
  p = .attack ∧ q = .decay ∨ p = .decay ∧ q = .sustain ∨ p ≠ .off ∧ q = .off

theorem EnvelopeMove.voiceStepMove {p q : Phase} (h : EnvelopeMove p q) : VoiceStepMove p q := by
  rcases h with h | h | ⟨rfl, hq⟩
  · exact .inl h
  · exact .inr (.inl h)
  · exact .inr (.inr ⟨by decide, hq⟩)

/-- The generator runs after the pitch counter; on a voice that its block's end has turned Off it does nothing. -/
theorem voiceOutput_phase (p : Params) {m : VoiceId} {s : State} (hon : (s.voice m).phase ≠ .off) :
    ((voiceOutput p m s).2.voice m).phase = (s.voice m).phase ∨
      VoiceStepMove (s.voice m).phase ((voiceOutput p m s).2.voice m).phase := by
  have hraw := rawSample_keepsPhases p m s m
  have hpitch := pitchAdvance_phase m (effectiveStep m (rawSample p m s).2) (rawSample p m s).2
  unfold voiceOutput
  simp only [voice_setVoice_self, adsrTick_voice]
  rcases hpitch with hsame | hoff
  · have htick := adsrVoice_phase
      ((pitchAdvance m (effectiveStep m (rawSample p m s).2) (rawSample p m s).2).voice m)
    rw [hsame, hraw] at htick
    exact htick.imp_right EnvelopeMove.voiceStepMove
  · rw [adsrVoice_of_off hoff]
    exact .inr (.inr (.inr ⟨hon, hoff⟩))

theorem voiceStep_phase (p : Params) (m : VoiceId) (s : State) :
    ((voiceStep p m s).2.voice m).phase = (s.voice m).phase ∨
      VoiceStepMove (s.voice m).phase ((voiceStep p m s).2.voice m).phase := by
  have hload := ensureLoaded_keepsPhases m s m
  unfold voiceStep
  split
  next => exact .inl (by simp only [offVoice, voice_setVoice_self])
  next hon =>
    simp only
    split
    · exact .inl hload
    · have hout := voiceOutput_phase p (m := m) (s := ensureLoaded m s) (by rw [hload]; exact hon)
      rwa [hload] at hout

theorem voiceStep_moves (m : VoiceId) :
    PhaseMoves (fun s => returningPair (voiceStep Config.params m s)) fun n p q => m = n ∧ VoiceStepMove p q := by
  intro s n hne
  have hstep := phaseMoves_of_change (f := fun s => (voiceStep Config.params m s).2) (voiceStep_change Config.params m)
    (voiceStep_phase Config.params m) s n
  rw [voice_of_voices (returningPair_onlyAnswers _).voices] at hne ⊢
  exact hstep hne

/-! ### Every transaction (R320) -/

/-- The transactions and micro-operations that can change the phase of a voice. -/
inductive PhaseChanger : Instr → Prop where
  | controlWrite (v : Half) : PhaseChanger (.wr16Spucnt v)
  | controlWordWrite (w : Word) : PhaseChanger (.wr32 0xDA8 w)
  | tick (cycles : Nat) : PhaseChanger (.tick cycles)
  | reset : PhaseChanger .reset
  | keyOn (m : VoiceId) : PhaseChanger (.intKeyOn m)
  | keyOff (m : VoiceId) : PhaseChanger (.intKeyOff m)
  | voiceStep (m : VoiceId) : PhaseChanger (.intVoiceStep m)
  | pitchAdvance (m : VoiceId) (step : BitVec 15) : PhaseChanger (.intPitchAdvance m step)
  | adsrTick (m : VoiceId) : PhaseChanger (.intAdsrTick m)
  | mixStep : PhaseChanger .intMixStep
  | keyLatch : PhaseChanger .intKeyLatch

/-- `exec i` runs an operation that leaves every phase. -/
def ExecKeepsPhases (i : Instr) : Prop := ∃ f, KeepsPhases f ∧ ∀ s, exec i s = .next (transact f s)

theorem phaseChanger_or_execKeepsPhases (i : Instr) : PhaseChanger i ∨ ExecKeepsPhases i := by
  cases i
  case wr16Spucnt v => exact .inl (.controlWrite v)
  case wr32 off w =>
    by_cases hoff : off = 0xDA8
    · exact .inl (hoff ▸ .controlWordWrite w)
    · exact .inr ⟨_, writeWordAt_keepsPhases _ hoff w, fun _ => rfl⟩
  case tick cycles => exact .inl (.tick cycles)
  case reset => exact .inl .reset
  case intKeyOn m => exact .inl (.keyOn m)
  case intKeyOff m => exact .inl (.keyOff m)
  case intVoiceStep m => exact .inl (.voiceStep m)
  case intPitchAdvance m step => exact .inl (.pitchAdvance m step)
  case intAdsrTick m => exact .inl (.adsrTick m)
  case intMixStep => exact .inl .mixStep
  case intKeyLatch => exact .inl .keyLatch
  -- each of the others runs one of the operations shown above to leave every phase
  all_goals exact .inr ⟨_, by simp, fun _ => rfl⟩

/-- Settles O45: a transaction after which a phase differs is one of the phase changers, and makes one of the moves of its
operation. -/
theorem phaseTransitions : Obligations.PhaseTransitions := by
  unfold Obligations.PhaseTransitions
  intro i s t n ht hne
  rcases phaseChanger_or_execKeepsPhases i with hchanger | ⟨f, hf, hexec⟩
  · cases hchanger with
    | controlWrite v => exact (writeSpucnt_moves v).of_exec (fun _ => rfl) ht hne
    | controlWordWrite w => exact ⟨rfl, (writeWordAt_moves Config.params w).of_exec (fun _ => rfl) ht hne⟩
    | tick cycles => trivial
    | reset =>
      rw [exec_reset] at ht
      cases ht
      exact resetState_phase s n
    | keyOn m => exact (keyOn_moves m).of_exec (fun _ => rfl) ht hne
    | keyOff m => exact (keyOff_moves m).of_exec (fun _ => rfl) ht hne
    | voiceStep m => exact (voiceStep_moves m).of_exec (fun _ => rfl) ht hne
    | pitchAdvance m step => exact (pitchAdvance_moves m step.toNat).of_exec (fun _ => rfl) ht hne
    | adsrTick m => exact (adsrTick_moves m).of_exec (fun _ => rfl) ht hne
    | mixStep => trivial
    | keyLatch => exact keyLatch_moves.of_exec (fun _ => rfl) ht hne
  · have hkeeps : PhaseMoves f fun _ _ _ => False := fun s n hne => hne (hf s n)
    exact (hkeeps.of_exec hexec ht hne).elim

end Sys2Proof.Machine
end

section
/-! PROOFS. The parts of a mix step as micro-operations (spec/43_mixer_tick.md R342, R346, R347, R349 to R352): the key latch voice by
voice, the cells of a capture write, the final mix and the output. -/

namespace Sys2Proof.Machine

open Sys2Proof Sys2Proof.Safety

/-! ### The micro-operations, on an unfaulted block (R430) -/

theorem exec_intCaptureWrite {s : State} (he : NoError s) (cl cr : Half) :
    exec (.intCaptureWrite cl cr) s = .next (captureWrite cl cr (returning .none s)) := congrArg _ (transact_of_noError _ he)

theorem exec_intOutputAppend {s : State} (he : NoError s) (l r : Half) :
    exec (.intOutputAppend l r) s = .next (outputAppend l r (returning .none s)) := congrArg _ (transact_of_noError _ he)

/-- A micro-operation whose rule leaves an unfaulted block answers the pair. -/
theorem returningPair_of_noError {r : (Int × Int) × State} (h : NoError r.2) :
    returningPair r = returning (.pair r.1.1 r.1.2) r.2 := if_neg (by rw [faulted_of_noError h]; exact Bool.false_ne_true)

theorem exec_intFinalMix {s : State} (he : NoError s) (dryL dryR : BitVec 21) :
    exec (.intFinalMix dryL dryR) s =
      .next (returning (.pair (finalMix dryL.toInt dryR.toInt s).1 (finalMix dryL.toInt dryR.toInt s).2) s) :=
  congrArg _ ((transact_of_noError _ he).trans (returningPair_of_noError (r := (_, returning .none s)) he))

theorem exec_intReverb {s : State} (he : NoError s) (inL inR : Half) :
    exec (.intReverb inL inR) s =
      .next (returning (.pair (reverb (s16 inL) (s16 inR) (returning .none s)).1.1
          (reverb (s16 inL) (s16 inR) (returning .none s)).1.2) (reverb (s16 inL) (s16 inR) (returning .none s)).2) := by
  have hexec : exec (.intReverb inL inR) s =
      .next (transact (fun s => returningPair (reverb (s16 inL) (s16 inR) s)) s) := rfl
  have hrun : NoError (reverb (s16 inL) (s16 inR) (returning .none s)).2 := (reverb_change _ _ _).fault.trans he
  rw [hexec, transact_of_noError _ he, returningPair_of_noError hrun]

/-! ### The final mix (R349, R350) -/

theorem finalChannel_of_unmuted {spucnt : Half} (h : spucnt.getLsbD 14 = true) (vol : Half) (dry : Int) :
    finalChannel spucnt vol dry = sat16 (mulq15 (sat16 dry) (s16 vol)) := if_neg (by rw [muted, h]; exact Bool.false_ne_true)

theorem finalChannel_of_muted {spucnt : Half} (h : spucnt.getLsbD 14 = false) (vol : Half) (dry : Int) :
    finalChannel spucnt vol dry = 0 := if_pos (by rw [muted, h]; rfl)

/-- Settles O47: bit 14 decides for both channels. -/
theorem finalMixClampsAndMutes : Obligations.FinalMixClampsAndMutes := by
  unfold Obligations.FinalMixClampsAndMutes
  intro dryL dryR s he
  rw [exec_intFinalMix he]
  split
  next h =>
    simp only [finalMix, finalChannel_of_unmuted h]
    rfl
  next h => simp only [finalMix, finalChannel_of_muted (Bool.eq_false_of_not_eq_true h)]

/-! ### The output (R351, R352) -/

/-- Settles O48: the flush is the one branch of the append. -/
theorem outputAppendAndFlush : Obligations.OutputAppendAndFlush := by
  unfold Obligations.OutputAppendAndFlush
  intro l r s he bytes
  rw [exec_intOutputAppend he]
  rfl

/-! ### The capture write (R346, R347) -/

/-- A cell write leaves every byte outside its cell. -/
theorem memRead1_memWrite2_other {s : State} (hw : Memory.wf s.ram = true) {a x : Nat} (h : Half) (ha : a + 1 < 0x80000)
    (hx : x < 0x80000) (hlo : x ≠ a) (hhi : x ≠ a + 1) : memRead1 (memWrite2 a h s) x = memRead1 s x := by
  rw [memRead1_memWrite2 hw, if_neg (by omega), if_neg (by omega)]

/-- A cell write leaves every cell that does not overlap it. -/
theorem memRead2_memWrite2_apart {s : State} (hw : Memory.wf s.ram = true) {a b : Nat} (h : Half) (ha : a + 1 < 0x80000)
    (hb : b + 1 < 0x80000) (hab : a + 1 < b ∨ b + 1 < a) : memRead2 (memWrite2 a h s) b = memRead2 s b := by
  rw [memRead2, memRead2, memRead1_memWrite2_other hw h ha hb (by omega) (by omega),
    memRead1_memWrite2_other hw h ha (by omega) (by omega) (by omega)]

/-- The four cells, each read after the writes of the later windows, which lie above it. -/
theorem captureWrite_cells (cl cr : Half) {s : State} (hw : Memory.wf s.ram = true) :
    memRead2 (captureWrite cl cr s) (0x000 + s.g.capOffset.toNat) = cl ∧
    memRead2 (captureWrite cl cr s) (0x400 + s.g.capOffset.toNat) = cr ∧
    memRead2 (captureWrite cl cr s) (0x800 + s.g.capOffset.toNat) = (s.voice 1).lastSample ∧
    memRead2 (captureWrite cl cr s) (0xC00 + s.g.capOffset.toNat) = (s.voice 3).lastSample := by
  have ho := s.g.capOffset.isLt
  let s1 := memWrite2 (0x000 + s.g.capOffset.toNat) cl s
  let s2 := memWrite2 (0x400 + s.g.capOffset.toNat) cr s1
  let s3 := memWrite2 (0x800 + s.g.capOffset.toNat) (s.voice 1).lastSample s2
  have hw1 : Memory.wf s1.ram = true := memWrite2_wf hw _ _
  have hw2 : Memory.wf s2.ram = true := memWrite2_wf hw1 _ _
  have hw3 : Memory.wf s3.ram = true := memWrite2_wf hw2 _ _
  refine ⟨?_, ?_, ?_, memRead2_memWrite2 hw3 _ _⟩
  · calc memRead2 (captureWrite cl cr s) _
      _ = memRead2 s3 _ := memRead2_memWrite2_apart hw3 _ (by omega) (by omega) (by omega)
      _ = memRead2 s2 _ := memRead2_memWrite2_apart hw2 _ (by omega) (by omega) (by omega)
      _ = memRead2 s1 _ := memRead2_memWrite2_apart hw1 _ (by omega) (by omega) (by omega)
      _ = cl := memRead2_memWrite2 hw _ _
  · calc memRead2 (captureWrite cl cr s) _
      _ = memRead2 s3 _ := memRead2_memWrite2_apart hw3 _ (by omega) (by omega) (by omega)
      _ = memRead2 s2 _ := memRead2_memWrite2_apart hw2 _ (by omega) (by omega) (by omega)
      _ = cr := memRead2_memWrite2 hw1 _ _
  · calc memRead2 (captureWrite cl cr s) _
      _ = memRead2 s3 _ := memRead2_memWrite2_apart hw3 _ (by omega) (by omega) (by omega)
      _ = (s.voice 1).lastSample := memRead2_memWrite2 hw2 _ _

/-- Every byte outside the four cells stays. -/
theorem captureWrite_others (cl cr : Half) {s : State} (hw : Memory.wf s.ram = true) {x : Nat} (hx : x < 0x80000)
    (hout : ∀ window ∈ [0x000, 0x400, 0x800, 0xC00],
      x ≠ window + s.g.capOffset.toNat ∧ x ≠ window + s.g.capOffset.toNat + 1) :
    memRead1 (captureWrite cl cr s) x = memRead1 s x := by
  have ho := s.g.capOffset.isLt
  have hother (window : Nat) (hmem : window ∈ [0x000, 0x400, 0x800, 0xC00]) (hlow : window ≤ 0xC00) (h : Half) (t : State)
      (ht : Memory.wf t.ram = true) : memRead1 (memWrite2 (window + s.g.capOffset.toNat) h t) x = memRead1 t x :=
    memRead1_memWrite2_other ht h (by omega) hx (hout window hmem).1 (hout window hmem).2
  have hw1 := memWrite2_wf hw (0x000 + s.g.capOffset.toNat) cl
  have hw2 := memWrite2_wf hw1 (0x400 + s.g.capOffset.toNat) cr
  have hw3 := memWrite2_wf hw2 (0x800 + s.g.capOffset.toNat) (s.voice 1).lastSample
  exact (hother 0xC00 (by decide) (by decide) _ _ hw3).trans <| (hother 0x800 (by decide) (by decide) _ _ hw2).trans <|
    (hother 0x400 (by decide) (by decide) _ _ hw1).trans (hother 0x000 (by decide) (by decide) _ _ hw)

/-- The offset wraps with its ten bits (R347). -/
theorem captureWrite_offset (cl cr : Half) (s : State) :
    (captureWrite cl cr s).g.capOffset.toNat = (s.g.capOffset.toNat + 2) % 0x400 := BitVec.toNat_add _ _

/-- Settles O46: the windows are 0x400 apart and the offset is below 0x400, so that no two of the four cells overlap. -/
theorem captureWriteCells : Obligations.CaptureWriteCells := by
  unfold Obligations.CaptureWriteCells
  intro cl cr s he hw o
  obtain ⟨h0, h1, h2, h3⟩ := captureWrite_cells cl cr (s := returning .none s) hw
  exact ⟨_, exec_intCaptureWrite he cl cr, rfl, captureWrite_offset cl cr _, h0, h1, h2, h3,
    fun x hx hout => captureWrite_others cl cr (s := returning .none s) hw hx hout⟩

/-! ### The key latch (R342) -/

/-- The voice record after `KeyOn` (R271). -/
def keyedOn (v : Voice) : Voice :=
  { v with
    cur := cursorOf v.startAddr
    pcount := 0
    buf := Vector.replicate 28 0
    hist := Vector.replicate 3 0
    blkFlags := 0
    isLoaded := false
    envLevel := 0
    adsrWait := 0
    phase := .attack }

/-- The voice record after `KeyOff` (R272). -/
def keyedOff (v : Voice) : Voice := if v.phase = .off then v else { v with phase := .release, adsrWait := 0 }

theorem latchOn_voice (kon : Mask) (s : State) (n : VoiceId) :
    (latchOn kon s n).voice n = if maskBit kon n then keyedOn (s.voice n) else s.voice n := by
  rw [latchOn, apply_ite (fun t : State => t.voice n), keyOn_voice]
  rfl

theorem latchOff_voice (koff : Mask) (s : State) (n : VoiceId) :
    (latchOff koff s n).voice n = if maskBit koff n then keyedOff (s.voice n) else s.voice n := by
  rw [latchOff, apply_ite (fun t : State => t.voice n), keyOff_voice]
  rfl

theorem latchOn_endx (kon : Mask) (s : State) (n : VoiceId) :
    maskBit (latchOn kon s n).g.endx n = (maskBit s.g.endx n && !maskBit kon n) := by
  unfold latchOn
  split
  next h => simp [keyOn, maskBit_clearMaskBit, h]
  next h => simp [h]

theorem latchOff_global (koff : Mask) (s : State) (n : VoiceId) : (latchOff koff s n).g = s.g := by
  unfold latchOff
  split
  · exact keyOff_global n s
  · rfl

/-- What a part of the key latch may change: the voice records and the ENDX flags. -/
def LatchChange (s t : State) : Prop := t = { s with voices := t.voices, g := { s.g with endx := t.g.endx } }

theorem LatchChange.trans {s t u : State} (h : LatchChange s t) (h' : LatchChange t u) : LatchChange s u := by
  unfold LatchChange at *
  rw [h', h]

theorem latchOn_latchChange (kon : Mask) (s : State) (n : VoiceId) : LatchChange s (latchOn kon s n) := by
  unfold latchOn
  split <;> rfl

theorem latchOff_latchChange (koff : Mask) (s : State) (n : VoiceId) : LatchChange s (latchOff koff s n) := by
  unfold latchOff keyOff
  split
  · split <;> rfl
  · rfl

theorem foldl_latchChange {f : State → VoiceId → State} (hf : ∀ s n, LatchChange s (f s n)) (l : List VoiceId) (s : State) :
    LatchChange s (l.foldl f s) :=
  foldl_keeps (P := LatchChange s) (fun t n h => h.trans (hf t n)) l rfl

theorem keyLatch_latchChange (s : State) :
    LatchChange { s with g := { s.g with konPend := 0, koffPend := 0 } } (keyLatch s) :=
  (foldl_latchChange (latchOn_latchChange _) allVoices _).trans (foldl_latchChange (latchOff_latchChange _) allVoices _)

/-- Each voice is keyed on and then keyed off, as its two pending bits say (R342). -/
theorem keyLatch_voice (s : State) (n : VoiceId) :
    (keyLatch s).voice n =
      let v := if maskBit s.g.konPend n then keyedOn (s.voice n) else s.voice n
      if maskBit s.g.koffPend n then keyedOff v else v := by
  obtain ⟨t, _, ht, _, hon, _⟩ := foldl_at (latchOn_change s.g.konPend) { s with g := { s.g with konPend := 0, koffPend := 0 } } n
  obtain ⟨u, _, hu, _, hoff, _⟩ := foldl_at (latchOff_change s.g.koffPend)
    (allVoices.foldl (latchOn s.g.konPend) { s with g := { s.g with konPend := 0, koffPend := 0 } }) n
  rw [latchOn_voice, ht, voice_with_g] at hon
  rw [latchOff_voice, hu, hon] at hoff
  exact hoff

/-- A key-on clears the ENDX flag of its voice; a key-off leaves the flags (R271, R272). -/
theorem keyLatch_endx (s : State) : (keyLatch s).g.endx = s.g.endx &&& ~~~s.g.konPend := by
  refine mask_ext fun n => ?_
  obtain ⟨t, _, _, ht, _, hon⟩ := foldl_at (latchOn_change s.g.konPend) { s with g := { s.g with konPend := 0, koffPend := 0 } } n
  obtain ⟨u, _, _, hu, _, hoff⟩ := foldl_at (latchOff_change s.g.koffPend)
    (allVoices.foldl (latchOn s.g.konPend) { s with g := { s.g with konPend := 0, koffPend := 0 } }) n
  have hkept : maskBit (keyLatch s).g.endx n = (maskBit s.g.endx n && !maskBit s.g.konPend n) := by
    rw [latchOn_endx, ht] at hon
    rw [latchOff_global, hu, hon] at hoff
    exact hoff
  have hnot : maskBit (~~~s.g.konPend) n = !maskBit s.g.konPend n := by
    rw [maskBit, maskBit, BitVec.getLsbD_not, decide_eq_true n.isLt, Bool.true_and]
  rw [hkept, maskBit_and, hnot]

/-- A key-off that is pending acts on a voice that is not Off then (R272). -/
theorem keyedOff_of_bit (koff : Bool) (v : Voice) :
    (if koff then keyedOff v else v) =
      if koff = true ∧ v.phase ≠ .off then { v with phase := .release, adsrWait := 0 } else v := by
  unfold keyedOff
  cases koff <;> by_cases h : v.phase = .off <;> simp [h]

/-- Settles O35: the key latch voice by voice, and the frame of its two passes. -/
theorem keyLatchAppliesBothMasks : Obligations.KeyLatchAppliesBothMasks := by
  unfold Obligations.KeyLatchAppliesBothMasks
  intro s he
  refine ⟨_, exec_intKeyLatch he, ?_, fun n => ?_⟩
  · have hframe := keyLatch_latchChange (returning .none s)
    rw [LatchChange, keyLatch_endx] at hframe
    exact hframe
  · exact (keyLatch_voice (returning .none s) n).trans (keyedOff_of_bit _ _)

end Sys2Proof.Machine
end

section
/-! PROOFS. A mix step that completes, part by part (spec/43_mixer_tick.md R341 to R354): the voice sum in closed form, the CD pair,
the reverb part, and the range of the final sums. -/

namespace Sys2Proof.Machine

open Sys2Proof Sys2Proof.Safety

/-! ### The chain of voice steps, when every header is accepted (R343) -/

theorem not_mem_take_allVoices (n : VoiceId) : n ∉ allVoices.take n.val := by
  have hnd : (allVoices.take n.val ++ allVoices.drop n.val).Nodup := by
    rw [List.take_append_drop]
    exact List.nodup_finRange 24
  rw [drop_allVoices] at hnd
  exact fun hmem => List.disjoint_of_nodup_append hnd hmem List.mem_cons_self

/-- The voice steps before that of voice `n` leave it. -/
theorem voiceChain_voice (p : Params) (s : State) (n : VoiceId) : (voiceChain p s n.val).voice n = s.voice n :=
  (foldl_others (fun t m => voiceStep_change p m t) _ (not_mem_take_allVoices n) s).1

theorem voiceChain_noError (p : Params) {s : State} (he : NoError s)
    (h : ∀ n : VoiceId, NeedsDecode (s.voice n) → LegalHeader (memRead1 s (s.voice n).cur.toNat)) {i : Nat} (hi : i ≤ 24) :
    NoError (voiceChain p s i) := by
  induction i with
  | zero => exact he
  | succ k ih =>
    have hsucc : voiceChain p s (k + 1) = _ := voiceChain_succ p s ⟨k, hi⟩
    have hvoice : (voiceChain p s k).voice ⟨k, hi⟩ = _ := voiceChain_voice p s ⟨k, hi⟩
    rw [hsucc, voiceStep_noError_iff p _ (ih (by omega)), hvoice, memRead1_congr (voiceChain_change p s k).ram]
    exact h ⟨k, hi⟩

/-- A mix step with accepted headers has an unfaulted chain. -/
theorem headersReady_voiceChain_noError {s : State} (h : HeadersReady s) (he : NoError s) (p : Params) {i : Nat}
    (hi : i ≤ 24) : NoError (voiceChain p (keyLatch s) i) := by
  refine voiceChain_noError p ((keyLatch_fault s).trans he) (fun n hn => ?_) hi
  rw [memRead1_congr (keyLatch_change s).ram]
  exact h n hn

/-! ### The voice sum in closed form (R290, R343) -/

/-- What voice `n` adds to the sums: the answer of its voice step in the chain. -/
def chainContribution (p : Params) (s : State) (n : VoiceId) : Int × Int := (voiceStep p n (voiceChain p s n.val)).1

/-- The sums after the voices of a list have added `c`, those in `send` to the reverb input too. -/
def addVoices (c : VoiceId → Int × Int) (send : Mask) (l : List VoiceId) (acc : Sums) : Sums :=
  l.foldl (fun acc n => addVoice acc (c n) (maskBit send n)) acc

theorem addVoices_take_succ (c : VoiceId → Int × Int) (send : Mask) (n : VoiceId) (acc : Sums) :
    addVoices c send (allVoices.take (n.val + 1)) acc =
      addVoice (addVoices c send (allVoices.take n.val) acc) (c n) (maskBit send n) := by
  have hn : n.val < allVoices.length := by rw [allVoices, List.length_finRange]; exact n.isLt
  rw [addVoices, List.take_succ_eq_append_getElem hn, List.foldl_append, getElem_allVoices]
  rfl

/-- While no voice step faults, the voice sum has added the contributions of the chain so far. -/
theorem sumVoices_eq_addVoices (p : Params) (s : State) (acc : Sums) {i : Nat} (hi : i ≤ 24)
    (h : ∀ j, j ≤ i → NoError (voiceChain p s j)) :
    sumVoices p allVoices acc s =
      sumVoices p (allVoices.drop i) (addVoices (chainContribution p s) s.g.eon (allVoices.take i) acc)
        (voiceChain p s i) := by
  induction i with
  | zero => rfl
  | succ k ih =>
    have hdrop : allVoices.drop k = _ := drop_allVoices ⟨k, hi⟩
    have hsucc : voiceChain p s (k + 1) = _ := voiceChain_succ p s ⟨k, hi⟩
    have hadd : addVoices _ _ (allVoices.take (k + 1)) acc = _ :=
      addVoices_take_succ (chainContribution p s) s.g.eon ⟨k, hi⟩ acc
    have heon : (voiceChain p s (k + 1)).g.eon = s.g.eon := by rw [(voiceChain_change p s (k + 1)).global]
    rw [ih (by omega) fun j hj => h j (by omega), hdrop, sumVoices_cons_of_noError (hsucc ▸ h (k + 1) (Nat.le_refl _)),
      hadd, ← hsucc, heon]
    rfl

theorem addVoices_eq_sum (c : VoiceId → Int × Int) (send : Mask) (l : List VoiceId) (acc : Sums) :
    addVoices c send l acc =
      { dryL := acc.dryL + (l.map fun n => (c n).1).sum
        dryR := acc.dryR + (l.map fun n => (c n).2).sum
        revL := acc.revL + (l.map fun n => if maskBit send n then (c n).1 else 0).sum
        revR := acc.revR + (l.map fun n => if maskBit send n then (c n).2 else 0).sum } := by
  induction l generalizing acc with
  | nil => simp [addVoices]
  | cons n rest ih =>
    have hcons : addVoices c send (n :: rest) acc = addVoices c send rest (addVoice acc (c n) (maskBit send n)) := rfl
    rw [hcons, ih]
    cases h : maskBit send n <;> simp [addVoice, h, Int.add_assoc]

/-- The sums of the 24 contributions `c`, those in `send` sent to the reverb. -/
def contributionSums (c : VoiceId → Int × Int) (send : Mask) : Sums where
  dryL := ∑ n, (c n).1
  dryR := ∑ n, (c n).2
  revL := ∑ n, if maskBit send n then (c n).1 else 0
  revR := ∑ n, if maskBit send n then (c n).2 else 0

/-- A voice sum without a fault: the sums of the contributions, and the end of the chain. -/
theorem voiceSum_eq (p : Params) {s : State} (h : ∀ j, j ≤ 24 → NoError (voiceChain p s j)) :
    voiceSum p s = (contributionSums (chainContribution p s) s.g.eon, voiceChain p s 24) := by
  have htake : allVoices.take 24 = allVoices := rfl
  have hdrop : allVoices.drop 24 = [] := rfl
  rw [voiceSum, sumVoices_eq_addVoices p s Sums.zero (Nat.le_refl 24) h, htake, hdrop, sumVoices, addVoices_eq_sum]
  simp only [contributionSums, Fin.sum_univ_def, Sums.zero, Int.zero_add]
  rfl

/-! ### The range of the sums (R354) -/

theorem contribution_range (v : Voice) {out : Int} (h : -0x8000 ≤ out ∧ out ≤ 0x7FFF) :
    (-0x8000 ≤ (contribution v out).1 ∧ (contribution v out).1 ≤ 0x8000) ∧
      (-0x8000 ≤ (contribution v out).2 ∧ (contribution v out).2 ≤ 0x8000) :=
  ⟨mulq15_range h (s16_range _), mulq15_range h (s16_range _)⟩

theorem voiceStep_range (p : Params) (n : VoiceId) (s : State) :
    (-0x8000 ≤ (voiceStep p n s).1.1 ∧ (voiceStep p n s).1.1 ≤ 0x8000) ∧
      (-0x8000 ≤ (voiceStep p n s).1.2 ∧ (voiceStep p n s).1.2 ≤ 0x8000) := by
  unfold voiceStep
  split
  · norm_num
  · simp only
    split
    · norm_num
    · exact contribution_range _ (sat16_range _)

theorem sum_voices_range {c : VoiceId → Int} (h : ∀ n, -0x8000 ≤ c n ∧ c n ≤ 0x8000) :
    -0xC0000 ≤ ∑ n, c n ∧ ∑ n, c n ≤ 0xC0000 :=
  ⟨by simpa using Finset.card_nsmul_le_sum Finset.univ c (-0x8000) fun n _ => (h n).1,
    by simpa using Finset.sum_le_card_nsmul Finset.univ c 0x8000 fun n _ => (h n).2⟩

/-! ### The CD pair (R344, R345) -/

theorem cdDequeue_pair (s : State) : (cdDequeue s).1 = s.cdq.headD (0, 0) := by
  unfold cdDequeue
  split <;> simp_all

/-- One channel of the CD input: scaled, and 0 with CD audio disabled (R345). -/
def cdChannel (spucnt x vol : Half) : Int := if spucnt.getLsbD 0 then mulq15 (s16 x) (s16 vol) else 0

theorem cdChannel_range (spucnt x vol : Half) : -0x8000 ≤ cdChannel spucnt x vol ∧ cdChannel spucnt x vol ≤ 0x8000 := by
  unfold cdChannel
  split
  · exact mulq15_range (s16_range x) (s16_range vol)
  · decide

theorem cdMix_eq (g : Global) (pair : Half × Half) (acc : Sums) :
    cdMix g pair acc =
      { dryL := acc.dryL + cdChannel g.spucnt pair.1 g.cdVolL
        dryR := acc.dryR + cdChannel g.spucnt pair.2 g.cdVolR
        revL := acc.revL + if g.spucnt.getLsbD 2 then cdChannel g.spucnt pair.1 g.cdVolL else 0
        revR := acc.revR + if g.spucnt.getLsbD 2 then cdChannel g.spucnt pair.2 g.cdVolR else 0 } := by
  unfold cdMix cdChannel cdAudioEn cdRevEn
  cases g.spucnt.getLsbD 0 <;> cases g.spucnt.getLsbD 2 <;> simp

/-! ### The reverb part (R348) -/

/-- A mix step that finds the phase 1 only toggles it. -/
theorem reverbPart_of_phase {s : State} (h : s.g.revPhase = true) (acc : Sums) :
    reverbPart acc s = (acc, { s with g := { s.g with revPhase := false } }) := by
  simp [reverbPart, h]

theorem reverbPart_of_not_phase {s : State} (h : s.g.revPhase = false) (acc : Sums) :
    reverbPart acc s =
      let run := reverb (sat16 acc.revL) (sat16 acc.revR) s
      ({ acc with dryL := acc.dryL + run.1.1, dryR := acc.dryR + run.1.2 },
        { run.2 with g := { run.2.g with revPhase := true } }) := by
  have hphase : (reverb (sat16 acc.revL) (sat16 acc.revR) s).2.g.revPhase = false := by rw [(reverb_change _ _ s).global]; exact h
  simp [reverbPart, h, hphase]

/-- From `w` to `r` the reverb part of a mix step with reverb input `revL`, `revR` added `oL`, `oR` to the dry sums, as its
micro-operation does it in the steps that find the phase 0. -/
def ReverbRun (revL revR oL oR : Int) (w r : State) : Prop :=
  if w.g.revPhase then oL = 0 ∧ oR = 0 ∧ r = { w with g := { w.g with revPhase := false } }
  else ∃ x, exec (.intReverb (u16 (sat16 revL)) (u16 (sat16 revR))) w = .next (returning (.pair oL oR) x) ∧
    r = { x with g := { x.g with revPhase := true }, result := .none }

theorem reverbPart_run (acc : Sums) {w : State} (he : NoError w) (hres : w.result = .none) :
    ∃ oL oR, ReverbRun acc.revL acc.revR oL oR w (reverbPart acc w).2 ∧
      (reverbPart acc w).1 = { acc with dryL := acc.dryL + oL, dryR := acc.dryR + oR } ∧
      (-0x8000 ≤ oL ∧ oL ≤ 0x7FFF) ∧ (-0x8000 ≤ oR ∧ oR ≤ 0x7FFF) := by
  unfold ReverbRun
  cases h : w.g.revPhase
  case true =>
    rw [reverbPart_of_phase h]
    exact ⟨0, 0, ⟨rfl, rfl, rfl⟩, by simp, by decide, by decide⟩
  case false =>
    have hexec := exec_intReverb he (u16 (sat16 acc.revL)) (u16 (sat16 acc.revR))
    rw [s16_u16_sat16, s16_u16_sat16, returning_of_result hres] at hexec
    obtain ⟨hL, hR⟩ := reverb_range (sat16 acc.revL) (sat16 acc.revR) w
    rw [reverbPart_of_not_phase h]
    exact ⟨_, _, ⟨_, hexec, (returning_of_result (by exact (reverb_change _ _ w).result.trans hres)).symm⟩, rfl, hL, hR⟩

/-! ### The final mix and the output (R349 to R351) -/

theorem toInt_ofInt_21 {x : Int} (h : -0x100000 ≤ x ∧ x < 0x100000) : (BitVec.ofInt 21 x).toInt = x := by
  rw [BitVec.toInt_ofInt, Int.bmod]
  omega

/-- The final mix of sums that fit 21 signed bits, as its micro-operation. -/
theorem exec_intFinalMix_ofInt {s : State} (he : NoError s) {dryL dryR : Int} (hL : -0x100000 ≤ dryL ∧ dryL < 0x100000)
    (hR : -0x100000 ≤ dryR ∧ dryR < 0x100000) :
    exec (.intFinalMix (BitVec.ofInt 21 dryL) (BitVec.ofInt 21 dryR)) s =
      .next (returning (.pair (finalMix dryL dryR s).1 (finalMix dryL dryR s).2) s) := by
  rw [exec_intFinalMix he, toInt_ofInt_21 hL, toInt_ofInt_21 hR]

/-- Parts 3 to 5 of the mix step: the CD pair, the capture write and the reverb part, with the sums they lead to. -/
def mixRun (acc : Sums) (z : State) : Sums × State :=
  let pair := z.cdq.headD (0, 0)
  reverbPart (cdMix z.g pair acc) (captureWrite pair.1 pair.2 { z with cdq := z.cdq.tail })

/-- The sample that parts 6 and 7 append. -/
def mixSample (run : Sums × State) : Int × Int := finalMix run.1.dryL run.1.dryR run.2

/-- Parts 3 to 7 as one equation. -/
theorem mixOutput_eq (acc : Sums) (z : State) :
    mixOutput acc z =
      outputAppend (u16 (mixSample (mixRun acc z)).1) (u16 (mixSample (mixRun acc z)).2) (mixRun acc z).2 := by
  unfold mixOutput mixRun
  simp only [cdDequeue_pair, cdDequeue_eq]
  rfl

theorem reverbPart_fault (acc : Sums) (s : State) : (reverbPart acc s).2.fault = s.fault := by
  cases h : s.g.revPhase
  case true => rw [reverbPart_of_phase h]
  case false =>
    rw [reverbPart_of_not_phase h]
    exact (reverb_change _ _ s).fault

/-- Parts 3 to 7, each as its micro-operation does it, from voice sums that stay below 24 times 0x8000. -/
theorem mixOutput_parts (sums : Sums) {z : State} (he : NoError z) (hres : z.result = .none)
    (hL : -0xC0000 ≤ sums.dryL ∧ sums.dryL ≤ 0xC0000) (hR : -0xC0000 ≤ sums.dryR ∧ sums.dryR ≤ 0xC0000) :
    let pair := z.cdq.headD (0, 0)
    let acc := cdMix z.g pair sums
    ∃ (w r : State) (oL oR outL outR : Int),
      exec (.intCaptureWrite pair.1 pair.2) { z with cdq := z.cdq.tail } = .next w ∧
      ReverbRun acc.revL acc.revR oL oR w r ∧
      (-0x100000 ≤ acc.dryL + oL ∧ acc.dryL + oL < 0x100000) ∧ (-0x100000 ≤ acc.dryR + oR ∧ acc.dryR + oR < 0x100000) ∧
      exec (.intFinalMix (BitVec.ofInt 21 (acc.dryL + oL)) (BitVec.ofInt 21 (acc.dryR + oR))) r =
        .next (returning (.pair outL outR) r) ∧
      exec (.intOutputAppend (u16 outL) (u16 outR)) r = .next (mixOutput sums z) := by
  intro pair acc
  let w := captureWrite pair.1 pair.2 { z with cdq := z.cdq.tail }
  have hw : NoError w := he
  have hwres : w.result = .none := hres
  obtain ⟨oL, oR, hrun, hdry, hoL, hoR⟩ := reverbPart_run acc hw hwres
  have hr : NoError (reverbPart acc w).2 := (reverbPart_fault acc w).trans hw
  have hrres : (reverbPart acc w).2.result = .none := (reverbPart_mix acc w).result.trans hwres
  have haccL : acc.dryL = sums.dryL + cdChannel z.g.spucnt pair.1 z.g.cdVolL := congrArg Sums.dryL (cdMix_eq z.g pair sums)
  have haccR : acc.dryR = sums.dryR + cdChannel z.g.spucnt pair.2 z.g.cdVolR := congrArg Sums.dryR (cdMix_eq z.g pair sums)
  have hcdL := cdChannel_range z.g.spucnt pair.1 z.g.cdVolL
  have hcdR := cdChannel_range z.g.spucnt pair.2 z.g.cdVolR
  have hsumL : -0x100000 ≤ acc.dryL + oL ∧ acc.dryL + oL < 0x100000 := by omega
  have hsumR : -0x100000 ≤ acc.dryR + oR ∧ acc.dryR + oR < 0x100000 := by omega
  have hcapture : exec (.intCaptureWrite pair.1 pair.2) { z with cdq := z.cdq.tail } = .next w := by
    rw [exec_intCaptureWrite (s := { z with cdq := z.cdq.tail }) he, returning_of_result (by exact hres)]
  have hsample : mixSample (reverbPart acc w) = finalMix (acc.dryL + oL) (acc.dryR + oR) (reverbPart acc w).2 := by
    rw [mixSample, hdry]
  refine ⟨w, (reverbPart acc w).2, oL, oR, _, _, hcapture, hrun, hsumL, hsumR, exec_intFinalMix_ofInt hr hsumL hsumR, ?_⟩
  rw [exec_intOutputAppend hr, returning_of_result hrres, ← hsample]
  exact congrArg _ (mixOutput_eq sums z).symm

theorem mixStep_of_sum {p : Params} {s z : State} {sums : Sums} (h : voiceSum p (keyLatch s) = (sums, z)) (he : NoError z) :
    mixStep p s = mixOutput sums z := by
  simp only [mixStep, h, faulted_of_noError he, Bool.false_eq_true, if_false]

/-- Settles O50: the mix step runs its parts on the chain of voice steps; 24 contributions, a CD channel and a reverb output stay
below 26 times 0x8000. -/
theorem mixStepParts : Obligations.MixStepParts := by
  unfold Obligations.MixStepParts
  intro s he hready
  have hres : (keyLatch (returning .none s)).result = .none := (keyLatch_change (returning .none s)).result
  have heon : (keyLatch (returning .none s)).g.eon = s.g.eon := by rw [(keyLatch_change (returning .none s)).global]; rfl
  have hclean (i : Nat) (hi : i ≤ 24) : NoError (voiceChain Config.params (keyLatch (returning .none s)) i) :=
    headersReady_voiceChain_noError (s := returning .none s) ((headersReady_returning .none s).2 hready) he Config.params hi
  have hsum := voiceSum_eq Config.params hclean
  rw [heon] at hsum
  have hlatch := exec_intKeyLatch he
  have hmix := exec_intMixStep he
  rw [mixStep_of_sum hsum (hclean 24 (Nat.le_refl _))] at hmix
  generalize keyLatch (returning .none s) = s0 at *
  let k (i : Fin 25) : State := voiceChain Config.params s0 i.val
  have hzres : (k (Fin.last 24)).result = .none := (voiceChain_change Config.params s0 24).result.trans hres
  have hrange (n : VoiceId) := voiceStep_range Config.params n (voiceChain Config.params s0 n.val)
  obtain ⟨w, r, oL, oR, outL, outR, hcapture, hrun, hL, hR, hfinal, hout⟩ :=
    mixOutput_parts (z := k (Fin.last 24)) (contributionSums (chainContribution Config.params s0) s.g.eon)
      (hclean 24 (Nat.le_refl _)) hzres (sum_voices_range fun n => (hrange n).1) (sum_voices_range fun n => (hrange n).2)
  rw [cdMix_eq] at hrun hL hR hfinal
  exact ⟨k, chainContribution Config.params s0, w, r, _, oL, oR, outL, outR, hlatch,
    fun n => exec_intVoiceStep_chain hres n (hclean _ (Nat.le_of_lt n.isLt)) (hclean _ n.isLt), hcapture, hrun, hL, hR,
    hfinal, hout, hmix⟩

end Sys2Proof.Machine
end

section
/-! PROOFS. Mute and the cycle counter (spec/43_mixer_tick.md R340, R350): no part of a mix step before the final mix reads bit 14 of
the control register or the counter, so that flipping the one and raising the other commutes with each of them. -/

namespace Sys2Proof.Machine

open Sys2Proof Sys2Proof.Safety

/-- The state with the control bits in `x` flipped and the cycle counter raised by `b`. -/
def altered (x : Half) (b : Nat) (s : State) : State :=
  { s with g := { s.g with spucnt := s.g.spucnt ^^^ x, cycleCount := s.g.cycleCount + b } }

/-- None of the bits that the parts of a mix step before the final mix read: 7, 6, 2 and 0. -/
def UnreadBits (x : Half) : Prop := x &&& 0x00C5 = 0

theorem UnreadBits.bit {x : Half} (hx : UnreadBits x) {i : Nat} (hi : (0x00C5#16).getLsbD i = true) : x.getLsbD i = false := by
  have hbit : (x &&& 0x00C5#16).getLsbD i = false := by rw [show x &&& 0x00C5#16 = 0#16 from hx, BitVec.getLsbD_zero]
  rwa [BitVec.getLsbD_and, hi, Bool.and_true] at hbit

theorem getLsbD_flip {x : Half} {i : Nat} (h : x.getLsbD i = false) (v : Half) : (v ^^^ x).getLsbD i = v.getLsbD i := by
  rw [BitVec.getLsbD_xor, h, Bool.xor_false]

section altered

variable {x : Half} {b : Nat}

/-! ### What reads neither the control register nor the counter -/

theorem altered_voice (s : State) (n : VoiceId) : (altered x b s).voice n = s.voice n := rfl

theorem altered_rv (s : State) : (altered x b s).rv = s.rv := rfl

theorem faulted_altered (s : State) : faulted (altered x b s) = faulted s := rfl

theorem setVoice_altered (s : State) (n : VoiceId) (v : Voice) :
    (altered x b s).setVoice n v = altered x b (s.setVoice n v) := rfl

theorem keyOff_altered (n : VoiceId) (s : State) : keyOff n (altered x b s) = altered x b (keyOff n s) := by
  unfold keyOff
  rw [apply_ite (altered x b)]
  rfl

theorem latchOn_altered (kon : Mask) (s : State) (n : VoiceId) :
    latchOn kon (altered x b s) n = altered x b (latchOn kon s n) := by
  unfold latchOn
  rw [apply_ite (altered x b)]
  rfl

theorem latchOff_altered (koff : Mask) (s : State) (n : VoiceId) :
    latchOff koff (altered x b s) n = altered x b (latchOff koff s n) := by
  unfold latchOff
  rw [apply_ite (altered x b), keyOff_altered]

theorem keyLatch_altered (s : State) : keyLatch (altered x b s) = altered x b (keyLatch s) := by
  have hon := List.foldl_hom (altered x b) (H := latchOn_altered s.g.konPend)
    (l := allVoices) (init := { s with g := { s.g with konPend := 0, koffPend := 0 } })
  have hoff (t : State) := List.foldl_hom (altered x b) (H := latchOff_altered s.g.koffPend) (l := allVoices) (init := t)
  unfold keyLatch
  rw [← hoff, ← hon]
  rfl

theorem rawSample_altered (p : Params) (n : VoiceId) (s : State) :
    rawSample p n (altered x b s) = ((rawSample p n s).1, altered x b (rawSample p n s).2) := by
  cases h : maskBit s.g.non n
  case true =>
    rw [rawSample_of_noise p h, rawSample_of_noise p (s := altered x b s) h]
    rfl
  case false =>
    rw [rawSample_of_voice p h, rawSample_of_voice p (s := altered x b s) h]
    rfl

theorem loopEnd_altered (n : VoiceId) (s : State) : loopEnd n (altered x b s) = altered x b (loopEnd n s) := by
  unfold loopEnd
  simp only [apply_ite (altered x b)]
  rfl

theorem blockBoundary_altered (n : VoiceId) (s : State) :
    blockBoundary n (altered x b s) = altered x b (blockBoundary n s) := by
  unfold blockBoundary
  simp only [altered_voice, setVoice_altered, loopEnd_altered, apply_ite (altered x b)]

theorem pitchAdvance_altered (n : VoiceId) (step : Nat) (s : State) :
    pitchAdvance n step (altered x b s) = altered x b (pitchAdvance n step s) := by
  unfold pitchAdvance
  simp only [altered_voice, setVoice_altered, blockBoundary_altered, apply_ite (altered x b)]

theorem effectiveStep_altered (n : VoiceId) (s : State) : effectiveStep n (altered x b s) = effectiveStep n s := rfl

theorem adsrTick_altered (n : VoiceId) (s : State) : adsrTick n (altered x b s) = altered x b (adsrTick n s) := rfl

theorem voiceOutput_altered (p : Params) (n : VoiceId) (s : State) :
    voiceOutput p n (altered x b s) = ((voiceOutput p n s).1, altered x b (voiceOutput p n s).2) := by
  unfold voiceOutput
  simp only [rawSample_altered, effectiveStep_altered, pitchAdvance_altered, adsrTick_altered, altered_voice, setVoice_altered]

theorem revAddr_altered (s : State) (off : Int) : revAddr (altered x b s) off = revAddr s off := rfl

theorem cursorAdvance_altered (s : State) : cursorAdvance (altered x b s) = altered x b (cursorAdvance s) := rfl

theorem outputAppend_altered (l r : Half) (s : State) :
    outputAppend l r (altered x b s) = altered x b (outputAppend l r s) := by
  unfold outputAppend
  simp only [apply_ite (altered x b)]
  rfl

section reads

variable (hx : UnreadBits x)
include hx

/-! ### The interrupt checks read bit 6 (R436) -/

theorem signalIrq_altered (source : IrqSource) (s : State) :
    signalIrq source (altered x b s) = altered x b (signalIrq source s) := by
  have hen : irq9En (altered x b s).g.spucnt = irq9En s.g.spucnt := getLsbD_flip (hx.bit (by decide)) _
  unfold signalIrq
  rw [hen, apply_ite (altered x b)]
  rfl

theorem voiceIrqCheck_altered (n : VoiceId) (block : RamAddr) (s : State) :
    voiceIrqCheck n block (altered x b s) = altered x b (voiceIrqCheck n block s) := by
  unfold voiceIrqCheck
  rw [signalIrq_altered hx, apply_ite (altered x b)]
  rfl

theorem cellIrqCheck_altered (a : RamAddr) (s : State) :
    cellIrqCheck a (altered x b s) = altered x b (cellIrqCheck a s) := by
  unfold cellIrqCheck
  rw [signalIrq_altered hx, apply_ite (altered x b)]
  rfl

/-! ### The voice step and the voice sum (R270, R343) -/

theorem loadBlock_altered (n : VoiceId) (s : State) : loadBlock n (altered x b s) = altered x b (loadBlock n s) := by
  rw [loadBlock_eq, loadBlock_eq, ← voiceIrqCheck_altered hx]
  rfl

theorem ensureLoaded_altered (n : VoiceId) (s : State) : ensureLoaded n (altered x b s) = altered x b (ensureLoaded n s) := by
  unfold ensureLoaded decodeBlock
  simp only [loadBlock_altered hx, apply_ite (altered x b)]
  rfl

theorem voiceStep_altered (p : Params) (n : VoiceId) (s : State) :
    voiceStep p n (altered x b s) = ((voiceStep p n s).1, altered x b (voiceStep p n s).2) := by
  unfold voiceStep
  simp only [ensureLoaded_altered hx, faulted_altered, altered_voice, voiceOutput_altered]
  split
  · rfl
  · split <;> rfl

theorem sumVoices_altered (p : Params) (l : List VoiceId) (acc : Sums) (s : State) :
    sumVoices p l acc (altered x b s) = ((sumVoices p l acc s).1, altered x b (sumVoices p l acc s).2) := by
  induction l generalizing acc s with
  | nil => rfl
  | cons n rest ih =>
    unfold sumVoices
    simp only [voiceStep_altered hx, faulted_altered, ih]
    split <;> rfl

/-! ### The reverb processor reads bit 7 (R380, R383) -/

theorem revRead_altered (off : Int) (s : State) :
    revRead off (altered x b s) = ((revRead off s).1, altered x b (revRead off s).2) := by
  unfold revRead
  simp only [revAddr_altered, cellIrqCheck_altered hx]
  rfl

theorem revWrite_altered (off v : Int) (s : State) : revWrite off v (altered x b s) = altered x b (revWrite off v s) := by
  have hen : revWriteEn (altered x b s).g.spucnt = revWriteEn s.g.spucnt := getLsbD_flip (hx.bit (by decide)) _
  unfold revWrite
  simp only [hen, revAddr_altered, cellIrqCheck_altered hx, apply_ite (altered x b)]
  rfl

theorem reflect_altered (vWALL vIIR m d : Half) (xin : Int) (s : State) :
    reflect vWALL vIIR m d xin (altered x b s) = altered x b (reflect vWALL vIIR m d xin s) := by
  unfold reflect
  simp only [revRead_altered hx, revWrite_altered hx]

theorem comb_altered (rv : ReverbRegs) (c : ChannelRegs) (s : State) :
    comb rv c (altered x b s) = ((comb rv c s).1, altered x b (comb rv c s).2) := by
  unfold comb
  simp only [revRead_altered hx]

theorem allPass_altered (v m d : Half) (y : Int) (s : State) :
    allPass v m d y (altered x b s) = ((allPass v m d y s).1, altered x b (allPass v m d y s).2) := by
  unfold allPass
  simp only [revRead_altered hx, revWrite_altered hx]

theorem channel_altered (c : ChannelRegs) (input : Int) (s : State) :
    channel c input (altered x b s) = ((channel c input s).1, altered x b (channel c input s).2) := by
  unfold channel
  simp only [altered_rv, reflect_altered hx, comb_altered hx, allPass_altered hx]

theorem reverb_altered (inL inR : Int) (s : State) :
    reverb inL inR (altered x b s) = ((reverb inL inR s).1, altered x b (reverb inL inR s).2) := by
  unfold reverb
  simp only [altered_rv, channel_altered hx, cursorAdvance_altered]

/-! ### Parts 3 to 5 read bits 2 and 0 (R344 to R348) -/

theorem cdMix_altered (s : State) (pair : Half × Half) (acc : Sums) : cdMix (altered x b s).g pair acc = cdMix s.g pair acc := by
  have h0 : (altered x b s).g.spucnt.getLsbD 0 = s.g.spucnt.getLsbD 0 := getLsbD_flip (hx.bit (by decide)) _
  have h2 : (altered x b s).g.spucnt.getLsbD 2 = s.g.spucnt.getLsbD 2 := getLsbD_flip (hx.bit (by decide)) _
  simp only [cdMix_eq, cdChannel, h0, h2]
  rfl

theorem reverbPart_altered (acc : Sums) (s : State) :
    reverbPart acc (altered x b s) = ((reverbPart acc s).1, altered x b (reverbPart acc s).2) := by
  cases h : s.g.revPhase
  case true =>
    rw [reverbPart_of_phase h, reverbPart_of_phase (s := altered x b s) h]
    rfl
  case false =>
    rw [reverbPart_of_not_phase h, reverbPart_of_not_phase (s := altered x b s) h, reverb_altered hx]
    rfl

theorem mixRun_altered (acc : Sums) (z : State) :
    mixRun acc (altered x b z) = ((mixRun acc z).1, altered x b (mixRun acc z).2) := by
  unfold mixRun
  simp only [cdMix_altered hx, ← reverbPart_altered hx]
  rfl

end reads

end altered

/-! ### Splitting cycles -/

/-- `s` with `b` more cycles counted. -/
def withCycles (b : Nat) (s : State) : State := { s with g := { s.g with cycleCount := s.g.cycleCount + b } }

theorem altered_zero (b : Nat) (s : State) : altered 0 b s = withCycles b s := by
  have hspucnt : s.g.spucnt ^^^ 0 = s.g.spucnt := BitVec.xor_zero
  rw [altered, hspucnt]
  rfl

/-- A mix step neither reads nor changes the counter. -/
theorem mixStep_withCycles (p : Params) (b : Nat) (s : State) : mixStep p (withCycles b s) = withCycles b (mixStep p s) := by
  have hx : UnreadBits 0 := rfl
  have hsample (run : Sums × State) : mixSample (run.1, altered 0 b run.2) = mixSample run := by
    rw [altered_zero]
    rfl
  rw [← altered_zero, ← altered_zero]
  unfold mixStep voiceSum
  simp only [keyLatch_altered, sumVoices_altered hx, faulted_altered, mixOutput_eq, mixRun_altered hx, outputAppend_altered,
    hsample, apply_ite (altered 0 b)]

/-! ### Mute (R350) -/

/-- `u` is `t` but for the values of output bytes, in the buffer and in what went to the sink. -/
structure SamplesDiffer (t u : State) : Prop where
  eq : u = { t with out := u.out, trace := u.trace }
  length : u.out.length = t.out.length
  trace : u.trace.map maskSamples = t.trace.map maskSamples

theorem SamplesDiffer.refl (s : State) : SamplesDiffer s s := ⟨rfl, rfl, rfl⟩

/-- Whatever sample is appended, the buffer gets as long, and is flushed or not (R351, R352). -/
theorem outputAppend_samplesDiffer (l r l' r' : Half) (s : State) :
    SamplesDiffer (outputAppend l r s) (outputAppend l' r' s) := by
  have hlen (l r : Half) : (s.out ++ stereoBytes l r).length = s.out.length + 4 := List.length_append
  unfold outputAppend
  simp only [hlen]
  split
  · exact ⟨rfl, rfl, by simp only [emit, List.map_append, List.map_cons, List.map_nil, maskSamples, hlen]⟩
  · exact ⟨rfl, by rw [hlen, hlen], rfl⟩

/-- Control bits that only the final mix reads reach nothing but the output bytes. -/
theorem mixStep_altered {x : Half} (hx : UnreadBits x) (p : Params) (b : Nat) (s : State) :
    ∃ u, mixStep p (altered x b s) = altered x b u ∧ SamplesDiffer (mixStep p s) u := by
  unfold mixStep voiceSum
  simp only [keyLatch_altered, sumVoices_altered hx, faulted_altered, mixOutput_eq, mixRun_altered hx, outputAppend_altered]
  split
  · exact ⟨_, rfl, .refl _⟩
  · exact ⟨_, rfl, outputAppend_samplesDiffer _ _ _ _ _⟩

theorem exec_intMixStep_altered {x : Half} (hx : UnreadBits x) {b : Nat} {s t : State} (ht : exec .intMixStep s = .next t) :
    ∃ u, exec .intMixStep (altered x b s) = .next (altered x b u) ∧ SamplesDiffer t u := by
  by_cases he : NoError s
  · rw [exec_intMixStep he] at ht
    cases ht
    obtain ⟨u, hu, hdiffer⟩ := mixStep_altered hx Config.params b (returning .none s)
    exact ⟨u, (exec_intMixStep (s := altered x b s) he).trans (congrArg _ hu), hdiffer⟩
  · have hrefused (s : State) (he : ¬ NoError s) : exec .intMixStep s = .next (returning .refused s) :=
      congrArg _ (transact_of_error _ he)
    rw [hrefused s he] at ht
    cases ht
    exact ⟨returning .refused s, hrefused (altered x b s) he, .refl _⟩

theorem exec_intMixStep_spucnt {s t : State} (ht : exec .intMixStep s = .next t) : t.g.spucnt = s.g.spucnt := by
  cases ht
  exact transact_keeps (P := fun t => t.g.spucnt = s.g.spucnt) (fun _ _ h => h)
    (fun t _ h => (mixStep_mix Config.params t).spucnt.trans h) rfl

/-- Settles O52: bit 14 is read by the final mix alone. -/
theorem muteActsOnTheOutputOnly : Obligations.MuteActsOnTheOutputOnly := by
  unfold Obligations.MuteActsOnTheOutputOnly
  intro s t u ht hu
  obtain ⟨u', hu', hdiffer⟩ := exec_intMixStep_altered (x := 0x4000) rfl (b := 0) ht
  have heq : u = altered 0x4000 0 u' := Host.Outcome.next.inj (hu.symm.trans hu')
  subst heq
  refine ⟨?_, hdiffer.length, hdiffer.trace⟩
  rw [← exec_intMixStep_spucnt ht]
  exact congrArg (altered 0x4000 0) hdiffer.eq

end Sys2Proof.Machine
end

section
/-! PROOFS. The tick (spec/43_mixer_tick.md R340): one crossing after another, what each does to the counters and the output, and the
splitting of cycles. -/

namespace Sys2Proof.Machine

open Sys2Proof Sys2Proof.Safety

/-! ### Crossings -/

theorem exec_tick {s : State} (he : NoError s) (c : Nat) :
    exec (.tick c) s = .next (runTick Config.params c (returning .none s)) := congrArg _ (transact_of_noError _ he)

theorem runTick_eq (p : Params) (c : Nat) (s : State) :
    runTick p c s = crossings p ((s.g.cycleCount + c) / 0x300) (withCycles c s) := rfl

theorem runTick_zero (p : Params) (s : State) : runTick p 0 s = crossings p (s.g.cycleCount / 0x300) s := rfl

/-- The state with `n` cycles counted. -/
def withCount (n : Nat) (s : State) : State := { s with g := { s.g with cycleCount := n } }

@[simp] theorem withCount_count (n : Nat) (s : State) : (withCount n s).g.cycleCount = n := rfl

theorem noError_withCount {s : State} (h : NoError s) (n : Nat) : NoError (withCount n s) := h

theorem crossing_of_enabled (p : Params) {s : State} (h : masterEnable s.g.spucnt = true) :
    crossing p s = mixStep p (withCount (s.g.cycleCount - 0x300) s) := if_pos h

theorem crossing_of_disabled (p : Params) {s : State} (h : masterEnable s.g.spucnt = false) :
    crossing p s = withCount (s.g.cycleCount - 0x300) s := if_neg (by rw [h]; exact Bool.false_ne_true)

/-- The counter of an unfaulted block that has reached the interval crosses it, and the rest of the tick is that of the state
then, unless the crossing faulted. -/
theorem crossings_succ (p : Params) {k : Nat} {s : State} (h : s.g.cycleCount / 0x300 = k + 1) :
    crossings p (k + 1) s =
      if faulted (crossing p s) then crossing p s else crossings p ((crossing p s).g.cycleCount / 0x300) (crossing p s) := by
  have hreached : ¬ s.g.cycleCount < 0x300 := by omega
  have hleft : (crossing p s).g.cycleCount / 0x300 = k := by rw [crossing_count]; omega
  rw [crossings, if_neg hreached, hleft]

theorem crossings_succ_of_noError (p : Params) {k : Nat} {s : State} (h : s.g.cycleCount / 0x300 = k + 1)
    (he : NoError (crossings p (k + 1) s)) :
    NoError (crossing p s) ∧ crossings p (k + 1) s = crossings p k (crossing p s) := by
  have hleft : (crossing p s).g.cycleCount / 0x300 = k := by rw [crossing_count]; omega
  rw [crossings_succ p h, hleft] at he ⊢
  cases hf : faulted (crossing p s)
  case true =>
    rw [hf, if_pos rfl] at he
    exact absurd ((faulted_of_noError he).symm.trans hf) Bool.false_ne_true
  case false => exact ⟨noError_of_not_faulted hf, rfl⟩

/-- The crossings of a block with the master enable clear only count (R340). -/
theorem crossings_of_disabled (p : Params) (k : Nat) {s : State} (h : s.g.cycleCount / 0x300 = k) (he : NoError s)
    (hoff : masterEnable s.g.spucnt = false) : crossings p k s = withCount (s.g.cycleCount % 0x300) s := by
  induction k generalizing s with
  | zero =>
    rw [Nat.mod_eq_of_lt (by omega)]
    rfl
  | succ k ih =>
    have hcross := crossing_of_disabled p hoff
    obtain ⟨n, hn⟩ : ∃ n, s.g.cycleCount - 0x300 = n := ⟨_, rfl⟩
    rw [hn] at hcross
    have hk : n / 0x300 = k := by omega
    have hmod : n % 0x300 = s.g.cycleCount % 0x300 := by omega
    have hrest : crossings p k (withCount n s) = withCount (n % 0x300) s := ih hk (noError_withCount he n) hoff
    rw [crossings_succ p h, hcross, faulted_of_noError (noError_withCount he n), if_neg Bool.false_ne_true, withCount_count,
      hk, hrest, hmod]

/-- Settles O31: no crossing below the interval, crossings that only count, or a first crossing that is a mix step. -/
theorem tickByCrossings : Obligations.TickByCrossings := by
  unfold Obligations.TickByCrossings
  intro c s he
  have hexec := exec_tick he c
  refine ⟨fun hbelow => ?_, fun hoff => ?_, fun hon hreached => ?_⟩
  · rw [hexec, runTick_eq, returning_g, Nat.div_eq_of_lt hbelow]
    rfl
  · have hrun := crossings_of_disabled Config.params _ (s := withCycles c (returning .none s)) rfl he hoff
    exact hexec.trans (congrArg _ hrun)
  · obtain ⟨k, hk⟩ : ∃ k, (s.g.cycleCount + c) / 0x300 = k + 1 := ⟨(s.g.cycleCount + c) / 0x300 - 1, by omega⟩
    let m := mixStep Config.params (withCount (s.g.cycleCount + c - 0x300) (returning .none s))
    have hm : crossing Config.params (withCycles c (returning .none s)) = m := crossing_of_enabled Config.params hon
    have hmres : m.result = .none := (mixStep_mix Config.params _).result
    refine ⟨m, _, exec_intMixStep (noError_withCount he _), hexec, ?_⟩
    rw [runTick_eq, returning_g, hk, crossings_succ (s := withCycles c (returning .none s)) Config.params hk, hm]
    cases hf : faulted m
    case true => rw [if_pos (show m.fault.isSome = true from hf), if_pos rfl]
    case false =>
      have hne : NoError m := noError_of_not_faulted hf
      have hclean : ¬ m.fault.isSome = true := by rw [hne]; exact Bool.false_ne_true
      rw [if_neg hclean, if_neg Bool.false_ne_true, exec_tick hne, returning_of_result hmres, runTick_zero]

/-! ### Splitting cycles -/

theorem crossing_withCycles (p : Params) (b : Nat) {s : State} (h : 0x300 ≤ s.g.cycleCount) :
    crossing p (withCycles b s) = withCycles b (crossing p s) := by
  have hcount : (withCycles b s).g.cycleCount - 0x300 = s.g.cycleCount - 0x300 + b := by
    show s.g.cycleCount + b - 0x300 = _
    omega
  have hless : withCount ((withCycles b s).g.cycleCount - 0x300) (withCycles b s) =
      withCycles b (withCount (s.g.cycleCount - 0x300) s) := by
    rw [hcount]
    rfl
  cases hon : masterEnable s.g.spucnt
  case true =>
    rw [crossing_of_enabled p hon, crossing_of_enabled p (s := withCycles b s) hon, hless, mixStep_withCycles]
  case false => rw [crossing_of_disabled p hon, crossing_of_disabled p (s := withCycles b s) hon, hless]

/-- Cycles that come after the crossings so far, none of which faulted, could as well have been there from the start. -/
theorem crossings_withCycles (p : Params) (b k : Nat) {s : State} (h : s.g.cycleCount / 0x300 = k)
    (he : NoError (crossings p k s)) :
    crossings p (((crossings p k s).g.cycleCount + b) / 0x300) (withCycles b (crossings p k s)) =
      crossings p ((s.g.cycleCount + b) / 0x300) (withCycles b s) := by
  induction k generalizing s with
  | zero => rfl
  | succ k ih =>
    obtain ⟨hcross, hrest⟩ := crossings_succ_of_noError p h he
    have hleft : (crossing p s).g.cycleCount = s.g.cycleCount - 0x300 := crossing_count p s
    obtain ⟨j, hj⟩ : ∃ j, (s.g.cycleCount + b) / 0x300 = j + 1 := ⟨(s.g.cycleCount + b) / 0x300 - 1, by omega⟩
    rw [hrest] at he ⊢
    rw [ih (by omega) he, hj, crossings_succ p (s := withCycles b s) hj, crossing_withCycles p b (by omega),
      faulted_of_noError (s := withCycles b (crossing p s)) hcross]
    rfl

/-- Settles O33: the cycles of the second `TICK` were there from the start of the first. -/
theorem tickSplitsFreely : Obligations.TickSplitsFreely := by
  unfold Obligations.TickSplitsFreely
  intro a b s s1 he ha he1
  rw [exec_tick he] at ha ⊢
  cases ha
  have hres : (runTick Config.params a (returning .none s)).result = .none := (runTick_tick Config.params a _).result
  have hsplit := crossings_withCycles Config.params b _ (s := withCycles a (returning .none s)) rfl he1
  have hcount : (withCycles a (returning .none s)).g.cycleCount + b = s.g.cycleCount + (a + b) := Nat.add_assoc _ _ _
  have hcycles : withCycles b (withCycles a (returning .none s)) = withCycles (a + b) (returning .none s) := by
    simp only [withCycles, Nat.add_assoc]
  rw [hcount, hcycles] at hsplit
  rw [exec_tick he1, returning_of_result hres]
  exact congrArg _ hsplit

/-! ### What mix steps do to the counters and the output (R344, R347, R348, R351, R352) -/

/-- From `s` to `t` the counters moved as `k` mix steps move them: the capture offset by 2 and the reverb phase by one toggle for
each, one CD pair consumed and four bytes of output produced in each. -/
structure MixSteps (k : Nat) (s t : State) : Prop where
  capOffset : t.g.capOffset.toNat = (s.g.capOffset.toNat + 2 * k) % 0x400
  revPhase : t.g.revPhase = (s.g.revPhase ^^ decide (k % 2 = 1))
  cdq : t.cdq = s.cdq.drop k
  bytes : t.out.length + sunkBytes t.trace = s.out.length + sunkBytes s.trace + 4 * k

theorem MixSteps.refl (s : State) : MixSteps 0 s s where
  capOffset := (Nat.mod_eq_of_lt s.g.capOffset.isLt).symm
  revPhase := (Bool.xor_false _).symm
  cdq := rfl
  bytes := rfl

theorem decide_odd_add (j k : Nat) : (decide (j % 2 = 1) ^^ decide (k % 2 = 1)) = decide ((j + k) % 2 = 1) := by
  rcases Nat.mod_two_eq_zero_or_one j with hj | hj <;> rcases Nat.mod_two_eq_zero_or_one k with hk | hk <;>
    simp [Nat.add_mod, hj, hk]

theorem MixSteps.trans {j k : Nat} {s t u : State} (h : MixSteps j s t) (h' : MixSteps k t u) : MixSteps (j + k) s u where
  capOffset := by rw [h'.capOffset, h.capOffset]; omega
  revPhase := by rw [h'.revPhase, h.revPhase, Bool.xor_assoc, decide_odd_add]
  cdq := by rw [h'.cdq, h.cdq, List.drop_drop]
  bytes := by rw [h'.bytes, h.bytes]; omega

theorem sunkBytes_append (a b : List Event) : sunkBytes (a ++ b) = sunkBytes a + sunkBytes b := by
  induction a with
  | nil => simp [sunkBytes]
  | cons e rest ih => cases e <;> simp [sunkBytes, ih, Nat.add_assoc]

theorem IrqTrace.sunkBytes_eq {s t : State} (h : IrqTrace s t) : sunkBytes t.trace = sunkBytes s.trace := by
  rcases h with ⟨htrace, _⟩ | ⟨_, _, _, source, htrace⟩
  · rw [htrace]
  · rw [htrace, sunkBytes_append]
    rfl

theorem VoicesChange.mixSteps {s t : State} (h : VoicesChange s t) : MixSteps 0 s t where
  capOffset := by rw [h.global]; exact (MixSteps.refl s).capOffset
  revPhase := by rw [h.global]; exact (MixSteps.refl s).revPhase
  cdq := h.cdq
  bytes := by rw [h.out, h.irq.sunkBytes_eq, Nat.mul_zero, Nat.add_zero]

theorem withCount_mixSteps (n : Nat) (s : State) : MixSteps 0 s (withCount n s) :=
  ⟨(MixSteps.refl s).capOffset, (MixSteps.refl s).revPhase, rfl, rfl⟩

theorem keyLatch_mixSteps (s : State) : MixSteps 0 s (keyLatch s) :=
  have hclear : MixSteps 0 s { s with g := { s.g with konPend := 0, koffPend := 0 } } :=
    ⟨(MixSteps.refl s).capOffset, (MixSteps.refl s).revPhase, rfl, rfl⟩
  hclear.trans (keyLatch_change s).mixSteps

/-- Whether the bytes stay in the buffer or go to the sink, four more have been produced. -/
theorem outputAppend_bytes (l r : Half) (s : State) :
    (outputAppend l r s).out.length + sunkBytes (outputAppend l r s).trace = s.out.length + sunkBytes s.trace + 4 := by
  have hlen : (s.out ++ stereoBytes l r).length = s.out.length + 4 := List.length_append
  unfold outputAppend
  simp only
  split
  · simp only [emit_out, emit_trace, sunkBytes_append, sunkBytes, hlen, List.length_nil]
    omega
  · simp only [hlen]
    omega

theorem reverbPart_frame (acc : Sums) (s : State) :
    (reverbPart acc s).2.g.capOffset = s.g.capOffset ∧ (reverbPart acc s).2.g.revPhase = !s.g.revPhase ∧
      (reverbPart acc s).2.cdq = s.cdq ∧ (reverbPart acc s).2.out = s.out ∧
      sunkBytes (reverbPart acc s).2.trace = sunkBytes s.trace := by
  cases h : s.g.revPhase
  case true =>
    rw [reverbPart_of_phase h]
    exact ⟨rfl, rfl, rfl, rfl, rfl⟩
  case false =>
    have hrun := reverb_change (sat16 acc.revL) (sat16 acc.revR) s
    have hoffset : (reverb (sat16 acc.revL) (sat16 acc.revR) s).2.g.capOffset = s.g.capOffset := by rw [hrun.global]
    rw [reverbPart_of_not_phase h]
    exact ⟨hoffset, rfl, hrun.cdq, hrun.out, hrun.irq.sunkBytes_eq⟩

theorem mixOutput_mixSteps (acc : Sums) (z : State) : MixSteps 1 z (mixOutput acc z) := by
  obtain ⟨hoffset, hphase, hcdq, hout, hsunk⟩ : (mixRun acc z).2.g.capOffset = z.g.capOffset + 2 ∧
      (mixRun acc z).2.g.revPhase = !z.g.revPhase ∧ (mixRun acc z).2.cdq = z.cdq.tail ∧ (mixRun acc z).2.out = z.out ∧
      sunkBytes (mixRun acc z).2.trace = sunkBytes z.trace := reverbPart_frame _ _
  have happend (l r : Half) (s : State) := outputAppend_eq l r s
  rw [mixOutput_eq]
  constructor
  case capOffset =>
    rw [happend, hoffset]
    exact BitVec.toNat_add _ _
  case revPhase =>
    rw [happend, hphase]
    exact (Bool.xor_true _).symm
  case cdq =>
    rw [happend, hcdq]
    exact List.drop_one.symm
  case bytes => rw [outputAppend_bytes, hout, hsunk]

theorem mixStep_mixSteps (p : Params) {s : State} (h : NoError (mixStep p s)) : MixSteps 1 s (mixStep p s) := by
  have hsum := (keyLatch_mixSteps s).trans (sumVoices_change p allVoices Sums.zero (keyLatch s)).mixSteps
  revert h
  unfold mixStep voiceSum
  simp only
  split
  next hf =>
    intro h
    exact absurd ((faulted_of_noError h).symm.trans hf) Bool.false_ne_true
  next => exact fun _ => hsum.trans (mixOutput_mixSteps _ _)

theorem crossings_mixSteps (p : Params) (k : Nat) {s : State} (h : s.g.cycleCount / 0x300 = k)
    (hon : masterEnable s.g.spucnt = true) (he : NoError (crossings p k s)) : MixSteps k s (crossings p k s) := by
  induction k generalizing s with
  | zero => exact .refl s
  | succ k ih =>
    obtain ⟨hcross, hrest⟩ := crossings_succ_of_noError p h he
    have hleft : (crossing p s).g.cycleCount = s.g.cycleCount - 0x300 := crossing_count p s
    have hspucnt := (crossing_tick p s).spucnt
    have hfirst : MixSteps 1 s (crossing p s) := by
      rw [crossing_of_enabled p hon] at hcross ⊢
      exact (withCount_mixSteps _ s).trans (mixStep_mixSteps p hcross)
    rw [hrest] at he ⊢
    rw [Nat.add_comm]
    exact hfirst.trans (ih (by omega) (by rw [hspucnt]; exact hon) he)

/-- Settles O32: one mix step for each crossing, and the remainder that is left. -/
theorem tickCountsMixSteps : Obligations.TickCountsMixSteps := by
  unfold Obligations.TickCountsMixSteps
  intro c s t he hon ht het k
  rw [exec_tick he] at ht
  cases ht
  have hsteps := crossings_mixSteps Config.params _ (s := withCycles c (returning .none s)) rfl hon het
  exact ⟨runTick_count Config.params c het, hsteps.capOffset, hsteps.revPhase, hsteps.cdq, hsteps.bytes⟩

end Sys2Proof.Machine
end

section
/-! PROOFS. The reverb processor (spec/44_reverb.md R380 to R397): each stage on a state that an invocation passes through, in the
words of the statements; the cells that an invocation leaves alone; and what is left of it with every register 0. -/

namespace Sys2Proof.Machine

open Sys2Proof Sys2Proof.Safety

/-! ### A state inside an invocation (R391) -/

/-- An invocation begun in `s` can pass through `u` before its cursor advances. -/
structure DuringReverb (s u : State) : Prop where
  change : ReverbChange s u
  cursor : u.g.revCur = s.g.revCur

theorem DuringReverb.refl (s : State) : DuringReverb s s := ⟨.refl s, rfl⟩

/-! ### Reads leave Sound RAM, on which cells depend alone (R382) -/

theorem revRead_ram (off : Int) (u : State) : (revRead off u).2.ram = u.ram := (cellIrqCheck_step _ u).ram

theorem revCell_congr {s m m' : State} (hr : m.ram = m'.ram) (off : Int) : revCell s m off = revCell s m' off :=
  congrArg s16 (memRead2_congr hr _)

theorem revStored_congr {s : State} {off v : Int} {m m' t t' : State} (hm : m.ram = m'.ram) (ht : t.ram = t'.ram)
    (hst : RevStored s off v m t) : RevStored s off v m' t' := by
  have hbm := memRead1_congr hm
  have hbt := memRead1_congr ht
  unfold RevStored Stored at hst ⊢
  simpa only [hbm, hbt] using hst

theorem comb_ram (rv : ReverbRegs) (c : ChannelRegs) (u : State) : (comb rv c u).2.ram = u.ram := by
  unfold comb
  simp only [revRead_ram]

/-- What an all-pass writes, from its tap `t` and its input `x` (R388, R389). -/
def allPassed (v : Half) (t x : Int) : Int := sat16 (x - gain t v)

section stages

variable {s u : State} (h : DuringReverb s u)
include h

theorem DuringReverb.revAddr_eq (off : Int) : revAddr u off = revAddr s off := revAddr_congr h.change.mBASE h.cursor off

theorem DuringReverb.after_revRead (off : Int) : DuringReverb s (revRead off u).2 :=
  ⟨h.change.trans (revRead_change off u), (revRead_cursor off u).trans h.cursor⟩

theorem DuringReverb.after_reflect (vWALL vIIR m d : Half) (xin : Int) : DuringReverb s (reflect vWALL vIIR m d xin u) :=
  ⟨h.change.trans (reflect_change vWALL vIIR m d xin u), (reflect_cursor vWALL vIIR m d xin u).trans h.cursor⟩

theorem DuringReverb.after_comb (rv : ReverbRegs) (c : ChannelRegs) : DuringReverb s (comb rv c u).2 :=
  ⟨h.change.trans (comb_change rv c u), (comb_cursor rv c u).trans h.cursor⟩

theorem DuringReverb.after_allPass (v m d : Half) (x : Int) : DuringReverb s (allPass v m d x u).2 :=
  ⟨h.change.trans (allPass_change v m d x u), (allPass_cursor v m d x u).trans h.cursor⟩

theorem DuringReverb.after_channel (c : ChannelRegs) (input : Int) : DuringReverb s (channel c input u).2 :=
  ⟨h.change.trans (channel_change c input u), (channel_cursor c input u).trans h.cursor⟩

/-! ### Reads and writes of an invocation (R382, R383) -/

theorem DuringReverb.revRead_value (off : Int) : (revRead off u).1 = revCell s u off := by
  unfold revRead revCell
  rw [h.revAddr_eq]

theorem DuringReverb.revWrite_stored (hw : Memory.wf s.ram = true) (off v : Int) :
    RevStored s off v u (revWrite off v u) := by
  have hcheck := (cellIrqCheck_step (revAddr s off) u).ram
  have hwf : Memory.wf (cellIrqCheck (revAddr s off) u).ram = true := by rw [hcheck]; exact h.change.wf hw
  unfold RevStored revWrite
  rw [h.change.spucnt, h.revAddr_eq]
  split
  · intro x hx
    rw [← memRead1_congr hcheck]
    exact memWrite2_stored hwf _ _ x hx
  · exact fun _ => rfl

/-! ### The stages of a channel (R384 to R390) -/

theorem DuringReverb.reflect_stored (hw : Memory.wf s.ram = true) (vWALL vIIR m d : Half) (xin : Int) :
    RevStored s (byteAddr m)
      (reflected vWALL vIIR xin (revCell s u (byteAddr m - 2)) (revCell s u (byteAddr d))) u
      (reflect vWALL vIIR m d xin u) := by
  have hread := h.after_revRead (byteAddr m - 2)
  have hstored := (hread.after_revRead (byteAddr d)).revWrite_stored hw (byteAddr m)
    (reflected vWALL vIIR xin (revCell s u (byteAddr m - 2)) (revCell s u (byteAddr d)))
  unfold reflect
  simp only [h.revRead_value, hread.revRead_value, revCell_congr (revRead_ram _ u)]
  exact revStored_congr ((revRead_ram _ _).trans (revRead_ram _ u)) rfl hstored

theorem DuringReverb.comb_value (rv : ReverbRegs) (c : ChannelRegs) :
    (comb rv c u).1 =
      sat16 (sat16 (sat16 (gain (revCell s u (byteAddr c.mCOMB1)) rv.vCOMB1 +
        gain (revCell s u (byteAddr c.mCOMB2)) rv.vCOMB2) +
        gain (revCell s u (byteAddr c.mCOMB3)) rv.vCOMB3) +
        gain (revCell s u (byteAddr c.mCOMB4)) rv.vCOMB4) := by
  have h1 := h.after_revRead (byteAddr c.mCOMB1)
  have h2 := h1.after_revRead (byteAddr c.mCOMB2)
  have h3 := h2.after_revRead (byteAddr c.mCOMB3)
  unfold comb
  simp only [h.revRead_value, h1.revRead_value, h2.revRead_value, h3.revRead_value, revCell_congr (revRead_ram _ _)]

theorem DuringReverb.allPass_value (v m d : Half) (x : Int) :
    let t := revCell s u ((m.toNat - d.toNat) * 8)
    (allPass v m d x u).1 = sat16 (gain (allPassed v t x) v + t) := by
  unfold allPass
  simp only [h.revRead_value]
  rfl

theorem DuringReverb.allPass_stored (hw : Memory.wf s.ram = true) (v m d : Half) (x : Int) :
    RevStored s (byteAddr m) (allPassed v (revCell s u ((m.toNat - d.toNat) * 8)) x) u (allPass v m d x u).2 := by
  unfold allPass
  simp only [h.revRead_value]
  exact revStored_congr (revRead_ram _ u) rfl ((h.after_revRead _).revWrite_stored hw _ _)

/-- A channel runs line by line, on the memories between its four writes (R384 to R391). -/
theorem DuringReverb.channel_run (hw : Memory.wf s.ram = true) (c : ChannelRegs) (input : Int) :
    ChannelRun s c input (channel c input u).1 u (channel c input u).2 := by
  have h1 := h.after_reflect s.rv.vWALL s.rv.vIIR c.mSAME c.dSAME (gain input c.vIN)
  have h2 := h1.after_reflect s.rv.vWALL s.rv.vIIR c.mDIFF c.dDIFF (gain input c.vIN)
  have h3 := h2.after_comb s.rv c
  have hram := comb_ram s.rv c (reflect s.rv.vWALL s.rv.vIIR c.mDIFF c.dDIFF (gain input c.vIN)
    (reflect s.rv.vWALL s.rv.vIIR c.mSAME c.dSAME (gain input c.vIN) u))
  have hval1 (x : Int) := h3.allPass_value s.rv.vAPF1 c.mAPF1 s.rv.dAPF1 x
  have hst1 (x : Int) := h3.allPass_stored hw s.rv.vAPF1 c.mAPF1 s.rv.dAPF1 x
  have h4 (x : Int) := h3.after_allPass s.rv.vAPF1 c.mAPF1 s.rv.dAPF1 x
  have hval2 (x y : Int) := (h4 x).allPass_value s.rv.vAPF2 c.mAPF2 s.rv.dAPF2 y
  have hst2 (x y : Int) := (h4 x).allPass_stored hw s.rv.vAPF2 c.mAPF2 s.rv.dAPF2 y
  unfold channel
  simp only [h.change.rv, h2.comb_value, hval1, hval2]
  simp only [revCell_congr hram] at hst1 hst2 hval1 ⊢
  refine ⟨_, _, _, h.reflect_stored hw _ _ _ _ _, h1.reflect_stored hw _ _ _ _ _, revStored_congr hram rfl (hst1 _), ?_, rfl⟩
  exact hst2 _ _

end stages

/-! ### The invocation (R380) -/

/-- The memory on which the right channel runs: what the left one leaves (R380). -/
def afterLeft (inL : Int) (s : State) : State := (channel (leftRegs s.rv) inL s).2

theorem afterLeft_during (inL : Int) (s : State) : DuringReverb s (afterLeft inL s) :=
  (DuringReverb.refl s).after_channel (leftRegs s.rv) inL

theorem reverb_eq (inL inR : Int) (s : State) :
    reverb inL inR s =
      (((channel (leftRegs s.rv) inL s).1, (channel (rightRegs s.rv) inR (afterLeft inL s)).1),
        cursorAdvance (channel (rightRegs s.rv) inR (afterLeft inL s)).2) := by
  simp only [reverb, afterLeft]

theorem channelRun_cursorAdvance {s m m' : State} {c : ChannelRegs} {input out : Int} (h : ChannelRun s c input out m m') :
    ChannelRun s c input out m (cursorAdvance m') := by
  obtain ⟨m1, m2, m3, hsame, hdiff, hapf1, hapf2, hout⟩ := h
  exact ⟨m1, m2, m3, hsame, hdiff, hapf1, revStored_congr (t := m') rfl rfl hapf2, hout⟩

/-- The two channels of an invocation, on the memories of their states. -/
theorem reverb_run (inL inR : Int) {s : State} (hw : Memory.wf s.ram = true) :
    ChannelRun s (leftRegs s.rv) inL (reverb inL inR s).1.1 s (afterLeft inL s) ∧
      ChannelRun s (rightRegs s.rv) inR (reverb inL inR s).1.2 (afterLeft inL s) (reverb inL inR s).2 := by
  rw [reverb_eq]
  exact ⟨(DuringReverb.refl s).channel_run hw _ _, channelRun_cursorAdvance ((afterLeft_during inL s).channel_run hw _ _)⟩

/-- Settles O53: the invocation runs on `s` with its answer cleared, of which the lines read nothing. -/
theorem reverbLineByLine : Obligations.ReverbLineByLine := by
  unfold Obligations.ReverbLineByLine
  intro inL inR s he hw
  obtain ⟨hleft, hright⟩ := reverb_run (s16 inL) (s16 inR) (s := returning .none s) hw
  exact ⟨_, _, _, _, exec_intReverb he inL inR, rfl, hleft, hright⟩

/-! ### What an invocation leaves unchanged (R383, R391, R392) -/

/-- A stored cell leaves every byte outside it. -/
theorem stored_cell_outside {a x : Nat} {lo hi : Byte} {s t : State} (h : Stored a [lo, hi] s t) (ha : a + 1 < 0x80000)
    (hx : x < 0x80000) (hlo : x ≠ a) (hhi : x ≠ a + 1) : memRead1 t x = memRead1 s x := by
  have hidx : 2 ≤ (x + 0x80000 - a % 0x80000) % 0x80000 := by omega
  have hnone : [lo, hi][(x + 0x80000 - a % 0x80000) % 0x80000]? = none := List.getElem?_eq_none hidx
  rw [h x hx, hnone]
  rfl

theorem revAddr_succ_lt (s : State) (off : Int) : (revAddr s off).toNat + 1 < 0x80000 := by
  obtain ⟨-, hhigh, -⟩ := revAddr_range s off
  omega

theorem revStored_outside {s m m' : State} {off v : Int} {x : Nat} (h : RevStored s off v m m') (hx : x < 0x80000)
    (hne : x ≠ (revAddr s off).toNat ∧ x ≠ (revAddr s off).toNat + 1) : memRead1 m' x = memRead1 m x := by
  unfold RevStored at h
  split at h
  · exact stored_cell_outside h (revAddr_succ_lt s off) hx hne.1 hne.2
  · exact h x

/-- A channel leaves every byte outside the cells of its four writes. -/
theorem channelRun_outside {s m m' : State} {c : ChannelRegs} {input out : Int} {x : Nat} (h : ChannelRun s c input out m m')
    (hx : x < 0x80000)
    (hne : ∀ r ∈ [c.mSAME, c.mDIFF, c.mAPF1, c.mAPF2],
      x ≠ (revAddr s (byteAddr r)).toNat ∧ x ≠ (revAddr s (byteAddr r)).toNat + 1) :
    memRead1 m' x = memRead1 m x := by
  obtain ⟨m1, m2, m3, hsame, hdiff, hapf1, hapf2, -⟩ := h
  calc memRead1 m' x
    _ = memRead1 m3 x := revStored_outside hapf2 hx (hne _ (by simp))
    _ = memRead1 m2 x := revStored_outside hapf1 hx (hne _ (by simp))
    _ = memRead1 m1 x := revStored_outside hdiff hx (hne _ (by simp))
    _ = memRead1 m x := revStored_outside hsame hx (hne _ (by simp))

theorem reverb_outside (inL inR : Int) {s : State} (hw : Memory.wf s.ram = true) {x : Nat} (hx : x < 0x80000)
    (hne : ∀ m ∈ [s.rv.mLSAME, s.rv.mLDIFF, s.rv.mLAPF1, s.rv.mLAPF2, s.rv.mRSAME, s.rv.mRDIFF, s.rv.mRAPF1, s.rv.mRAPF2],
      x ≠ (revAddr s (byteAddr m)).toNat ∧ x ≠ (revAddr s (byteAddr m)).toNat + 1) :
    memRead1 (reverb inL inR s).2 x = memRead1 s x := by
  obtain ⟨hleft, hright⟩ := reverb_run inL inR hw
  rw [channelRun_outside hright hx fun r hr => hne r (List.mem_append_right [_, _, _, _] hr),
    channelRun_outside hleft hx fun r hr => hne r (List.mem_append_left [_, _, _, _] hr)]

/-- A change of the reverb processor, with the fields it keeps written out. -/
theorem ReverbChange.eq {s t : State} (h : ReverbChange s t) :
    t = { s with ram := t.ram, g := { s.g with irqFlag := t.g.irqFlag, revCur := t.g.revCur }, trace := t.trace } := by
  rw [← h.global, ← h.voices, ← h.rv, ← h.cdq, ← h.out, ← h.fault, ← h.result, ← h.pending, ← h.draws]

/-! ### Which access raises the interrupt (R391, R438) -/

/-- From `u` to `v` the cells at the offsets in `l` were checked in order, their addresses those of the invocation begun in `s`. -/
abbrev OffsetChecks (s : State) (l : List Int) (u v : State) : Prop := CellChecks (l.map (revAddr s)) u v

theorem OffsetChecks.append {s u v w : State} {l l' : List Int} (h : OffsetChecks s l u v) (h' : OffsetChecks s l' v w) :
    OffsetChecks s (l ++ l') u w := by
  unfold OffsetChecks
  rw [List.map_append]
  exact CellChecks.append h h'

theorem OffsetChecks.after_cursorAdvance {s u v : State} {l : List Int} (h : OffsetChecks s l u v) :
    OffsetChecks s l u (cursorAdvance v) := ⟨h.spucnt, h.irqAddr, h.hit, h.miss⟩

/-- The access of a write: none when it is dropped (R383). -/
def writeOffsets (s : State) (m : Half) : List Int := if revWriteEn s.g.spucnt then [(byteAddr m : Int)] else []

/-- The offsets of one channel, by its registers. -/
def accessOffsets (s : State) (c : ChannelRegs) : List Int :=
  channelOffsets s c.mSAME c.dSAME c.mDIFF c.dDIFF c.mCOMB1 c.mCOMB2 c.mCOMB3 c.mCOMB4 c.mAPF1 c.mAPF2

theorem accessOffsets_eq (s : State) (c : ChannelRegs) :
    accessOffsets s c =
      [(byteAddr c.mSAME : Int) - 2, (byteAddr c.dSAME : Int)] ++ writeOffsets s c.mSAME ++
        ([(byteAddr c.mDIFF : Int) - 2, (byteAddr c.dDIFF : Int)] ++ writeOffsets s c.mDIFF) ++
        [(byteAddr c.mCOMB1 : Int), (byteAddr c.mCOMB2 : Int), (byteAddr c.mCOMB3 : Int), (byteAddr c.mCOMB4 : Int)] ++
        ([((c.mAPF1.toNat : Int) - s.rv.dAPF1.toNat) * 8] ++ writeOffsets s c.mAPF1) ++
        ([((c.mAPF2.toNat : Int) - s.rv.dAPF2.toNat) * 8] ++ writeOffsets s c.mAPF2) := by
  simp only [accessOffsets, channelOffsets, writeOffsets, List.append_assoc]

section checks

variable {s u : State} (h : DuringReverb s u)
include h

theorem DuringReverb.revRead_checks (off : Int) : OffsetChecks s [off] u (revRead off u).2 := by
  have hchecks := Machine.revRead_checks off u
  rwa [h.revAddr_eq] at hchecks

theorem DuringReverb.revWrite_checks (m : Half) (v : Int) : OffsetChecks s (writeOffsets s m) u (revWrite (byteAddr m) v u) := by
  have hchecks := Machine.revWrite_checks (byteAddr m) v u
  rw [h.change.spucnt, h.revAddr_eq] at hchecks
  unfold OffsetChecks writeOffsets
  split <;> simpa [*] using hchecks

theorem DuringReverb.reflect_checks (vWALL vIIR m d : Half) (xin : Int) :
    OffsetChecks s ([(byteAddr m : Int) - 2, (byteAddr d : Int)] ++ writeOffsets s m) u (reflect vWALL vIIR m d xin u) :=
  have h1 := h.after_revRead (byteAddr m - 2)
  have h2 := h1.after_revRead (byteAddr d)
  ((h.revRead_checks _).append (h1.revRead_checks _)).append (h2.revWrite_checks m _)

theorem DuringReverb.comb_checks (rv : ReverbRegs) (c : ChannelRegs) :
    OffsetChecks s [(byteAddr c.mCOMB1 : Int), (byteAddr c.mCOMB2 : Int), (byteAddr c.mCOMB3 : Int), (byteAddr c.mCOMB4 : Int)]
      u (comb rv c u).2 :=
  have h1 := h.after_revRead (byteAddr c.mCOMB1)
  have h2 := h1.after_revRead (byteAddr c.mCOMB2)
  have h3 := h2.after_revRead (byteAddr c.mCOMB3)
  (((h.revRead_checks _).append (h1.revRead_checks _)).append (h2.revRead_checks _)).append (h3.revRead_checks _)

theorem DuringReverb.allPass_checks (v m d : Half) (x : Int) :
    OffsetChecks s ([((m.toNat : Int) - d.toNat) * 8] ++ writeOffsets s m) u (allPass v m d x u).2 :=
  (h.revRead_checks _).append ((h.after_revRead _).revWrite_checks m _)

theorem DuringReverb.channel_checks (c : ChannelRegs) (input : Int) :
    OffsetChecks s (accessOffsets s c) u (channel c input u).2 := by
  have h1 := h.after_reflect s.rv.vWALL s.rv.vIIR c.mSAME c.dSAME (gain input c.vIN)
  have h2 := h1.after_reflect s.rv.vWALL s.rv.vIIR c.mDIFF c.dDIFF (gain input c.vIN)
  have h3 := h2.after_comb s.rv c
  have h4 (x : Int) := h3.after_allPass s.rv.vAPF1 c.mAPF1 s.rv.dAPF1 x
  unfold channel
  simp only [h.change.rv]
  rw [accessOffsets_eq]
  exact ((((h.reflect_checks _ _ _ _ _).append (h1.reflect_checks _ _ _ _ _)).append (h2.comb_checks _ _)).append
    (h3.allPass_checks _ _ _ _)).append ((h4 _).allPass_checks _ _ _ _)

end checks

theorem reverbOffsets_eq (s : State) :
    reverbOffsets s = accessOffsets s (leftRegs s.rv) ++ accessOffsets s (rightRegs s.rv) := by
  simp only [reverbOffsets, accessOffsets, leftRegs, rightRegs]

theorem reverb_checks (inL inR : Int) (s : State) : OffsetChecks s (reverbOffsets s) s (reverb inL inR s).2 := by
  have hleft : OffsetChecks s _ s (afterLeft inL s) := (DuringReverb.refl s).channel_checks (leftRegs s.rv) inL
  have hboth := hleft.append ((afterLeft_during inL s).channel_checks (rightRegs s.rv) inR)
  rw [reverb_eq, reverbOffsets_eq]
  exact hboth.after_cursorAdvance

/-- The first access that matches, found by its offset, is the one that signals. -/
theorem OffsetChecks.first {s t : State} {l : List Int} (h : OffsetChecks s l s t) :
    match l.find? (fun off => irqCell s (revAddr s off)) with
    | some off => Checked True (.cell (revAddr s off)) s t
    | none => t.g.irqFlag = s.g.irqFlag ∧ t.trace = s.trace := by
  have hfind := List.find?_map (f := revAddr s) (p := irqCell s) (l := l)
  split
  next off hoff => exact h.hit _ (hfind.trans (congrArg (Option.map (revAddr s)) hoff))
  next hnone => exact h.miss (hfind.trans (congrArg (Option.map (revAddr s)) hnone))

/-- Settles O54: the frame of the two channels, and the checks of their accesses. -/
theorem reverbFrame : Obligations.ReverbFrame := by
  unfold Obligations.ReverbFrame
  intro inL inR s he hw
  have hchange := reverb_change (s16 inL) (s16 inR) (returning .none s)
  have hcursor := reverb_cursor (s16 inL) (s16 inR) (returning .none s)
  obtain ⟨hL, hR⟩ := reverb_range (s16 inL) (s16 inR) (returning .none s)
  refine ⟨_, _, _, exec_intReverb he inL inR, ?_, hL, hR, hchange.below hw,
    fun x hx => reverb_outside _ _ (s := returning .none s) hw hx, hchange.dropped,
    (reverb_checks (s16 inL) (s16 inR) (returning .none s)).first⟩
  have heq := hchange.eq
  rw [hcursor] at heq
  exact congrArg (returning _) heq

end Sys2Proof.Machine
end

section
/-! PROOFS. The reverb processor with every register 0 (spec/44_reverb.md R381 to R390): every access is at the cursor or at the
cell before it, and the former takes the value of the latter. -/

namespace Sys2Proof.Machine

open Sys2Proof Sys2Proof.Safety

/-! ### The two cells (R381) -/

/-- Offset 0 is the cell at the cursor. -/
theorem revAddr_zero {s : State} (hs : GlobalOk s.g) : revAddr s 0 = s.g.revCur := by
  have heven := hs.revEven
  have hlow := hs.revLow
  have hhigh := hs.revHigh
  have hplace : ((s.g.revCur.toNat : Int) - byteAddr s.g.mBASE + 0) % (0x80000 - byteAddr s.g.mBASE) =
      s.g.revCur.toNat - byteAddr s.g.mBASE + 0 := Int.emod_eq_of_lt (by omega) (by omega)
  apply BitVec.eq_of_toNat_eq
  rw [revAddr_toNat, hplace]
  omega

/-- Offset -2 is the cell before the cursor, or the last one of the work area when the cursor is at its base. -/
theorem revAddr_before {s : State} (hs : GlobalOk s.g) :
    (revAddr s (-2)).toNat =
      if s.g.revCur.toNat = byteAddr s.g.mBASE then 0x7FFFE else s.g.revCur.toNat - 2 := by
  have heven := hs.revEven
  have hlow := hs.revLow
  have hhigh := hs.revHigh
  have hbase : byteAddr s.g.mBASE % 8 = 0 := by unfold byteAddr; omega
  rw [revAddr_toNat]
  split
  next hcur =>
    have hplace : ((s.g.revCur.toNat : Int) - byteAddr s.g.mBASE + -2) % (0x80000 - byteAddr s.g.mBASE) =
        0x80000 - byteAddr s.g.mBASE - 2 := by
      rw [← Int.add_emod_right, Int.emod_eq_of_lt (by omega) (by omega)]
      omega
    rw [hplace]
    omega
  next hcur =>
    have hplace : ((s.g.revCur.toNat : Int) - byteAddr s.g.mBASE + -2) % (0x80000 - byteAddr s.g.mBASE) =
        s.g.revCur.toNat - byteAddr s.g.mBASE + -2 := Int.emod_eq_of_lt (by omega) (by omega)
    rw [hplace]
    omega

/-- The two cells do not overlap. -/
theorem revAddr_before_apart {s : State} (hs : GlobalOk s.g) :
    (revAddr s 0).toNat + 1 < (revAddr s (-2)).toNat ∨ (revAddr s (-2)).toNat + 1 < (revAddr s 0).toNat := by
  have heven := hs.revEven
  have hlow := hs.revLow
  have hbase : byteAddr s.g.mBASE % 8 = 0 ∧ byteAddr s.g.mBASE ≤ 0x7FFF8 := by
    have := s.g.mBASE.isLt
    unfold byteAddr
    omega
  rw [revAddr_zero hs, revAddr_before hs]
  split <;> omega

/-- After an invocation the cell before the cursor is the one that was at the cursor (R392). -/
theorem reverb_before (inL inR : Int) {s : State} (hs : GlobalOk s.g) :
    (revAddr (reverb inL inR s).2 (-2)).toNat = s.g.revCur.toNat := by
  have heven := hs.revEven
  have hlow := hs.revLow
  have hhigh := hs.revHigh
  rw [revAddr_before (reverb_globalOk inL inR hs), reverb_cursor, (reverb_change inL inR s).mBASE]
  by_cases hwrap : 0x7FFFF < s.g.revCur.toNat + 2
  · have hbase : (cursorOf s.g.mBASE).toNat = byteAddr s.g.mBASE := cursorOf_toNat s.g.mBASE
    rw [if_pos hwrap, if_pos hbase]
    omega
  · have hnext : (BitVec.ofNat 19 (s.g.revCur.toNat + 2)).toNat = s.g.revCur.toNat + 2 := by
      rw [BitVec.toNat_ofNat]; omega
    rw [if_neg hwrap, hnext, if_neg (by omega)]
    omega

/-! ### Reading a stored cell -/

theorem stored_cell_read {a : Nat} {v : Half} {s t : State} (h : Stored a [loByte v, hiByte v] s t) (ha : a + 1 < 0x80000) :
    memRead2 t a = v := by
  have hlo : (a + 0x80000 - a % 0x80000) % 0x80000 = 0 := by omega
  have hhi : (a + 1 + 0x80000 - a % 0x80000) % 0x80000 = 1 := by omega
  rw [memRead2, h a (by omega), h (a + 1) ha, hlo, hhi]
  exact mkHalf_bytes v

/-- The second of two writes of the same cell stands. -/
theorem revStored_over {s m m' m'' : State} {off v w : Int} (h : RevStored s off v m m') (h' : RevStored s off w m' m'') :
    RevStored s off w m m'' := by
  unfold RevStored at h h' ⊢
  split at h
  next hen =>
    rw [if_pos hen] at h' ⊢
    intro x hx
    rw [h' x hx]
    by_cases hin : (x + 0x80000 - (revAddr s off).toNat % 0x80000) % 0x80000 < 2
    · rw [List.getElem?_eq_getElem hin]
      rfl
    · have hout : 2 ≤ (x + 0x80000 - (revAddr s off).toNat % 0x80000) % 0x80000 := Nat.le_of_not_lt hin
      rw [h x hx, List.getElem?_eq_none hout, List.getElem?_eq_none hout]
      rfl
  next hen =>
    rw [if_neg hen] at h' ⊢
    exact fun x => (h' x).trans (h x)

theorem revCell_stored {s m m' : State} {off v : Int} (hen : revWriteEn s.g.spucnt = true) (h : RevStored s off v m m') :
    revCell s m' off = s16 (u16 v) := by
  unfold RevStored at h
  rw [if_pos hen] at h
  exact congrArg s16 (stored_cell_read h (revAddr_succ_lt s off))

theorem revCell_apart {s m m' : State} {off off' v : Int} (h : RevStored s off v m m')
    (hne : (revAddr s off).toNat + 1 < (revAddr s off').toNat ∨ (revAddr s off').toNat + 1 < (revAddr s off).toNat) :
    revCell s m' off' = revCell s m off' := by
  have hlt := revAddr_succ_lt s off'
  unfold revCell memRead2
  rw [revStored_outside h (by omega) (by omega), revStored_outside h (by omega) (by omega)]

theorem revCell_range (s m : State) (off : Int) : -0x8000 ≤ revCell s m off ∧ revCell s m off ≤ 0x7FFF := s16_range _

@[simp] theorem sat16_revCell (s m : State) (off : Int) : sat16 (revCell s m off) = revCell s m off :=
  sat16_of_range (revCell_range s m off).1 (revCell_range s m off).2

/-! ### A channel with every register 0 (R385 to R390) -/

theorem sat16_mulq15_zero (a : Int) : sat16 (mulq15 a (s16 0)) = 0 := by
  have hproduct : mulq15 a (s16 0) = 0 := by simp [mulq15, sar, s16]
  rw [hproduct]
  rfl

/-- The filter of a reflection with coefficients 0 keeps its previous output. -/
theorem reflected_zero (s m : State) (xin tap off : Int) : reflected 0 0 xin (revCell s m off) tap = revCell s m off := by
  simp only [reflected, sat16_mulq15_zero, Int.zero_add, sat16_revCell]

/-- The lines of a channel: two copies of the cell before the cursor, a 0, and the tap of the first all-pass put back. -/
theorem channelRun_zero {s m m' : State} {input out : Int} (hrv : s.rv = ReverbRegs.reset)
    (h : ChannelRun s (leftRegs ReverbRegs.reset) input out m m') :
    ∃ m1 m2 m3 : State, RevStored s 0 (revCell s m (-2)) m m1 ∧ RevStored s 0 (revCell s m1 (-2)) m1 m2 ∧
      RevStored s 0 0 m2 m3 ∧ RevStored s 0 (revCell s m2 0) m3 m' ∧ out = 0 := by
  have hzero : sat16 0 = 0 := rfl
  have hoff : ((byteAddr (0 : Half) : Nat) : Int) = 0 := rfl
  have hback : ((0 : Half).toNat : Int) = 0 := rfl
  simp only [ChannelRun, hrv, leftRegs, ReverbRegs.reset, sat16_mulq15_zero, reflected_zero, hoff, hback, hzero, Int.zero_add,
    Int.sub_zero, Int.zero_mul, Int.zero_sub, sat16_revCell] at h
  exact h

/-- With writes enabled the cell at the cursor ends with the value of the cell before it. -/
theorem channelRun_zero_stored {s m m' : State} {input out : Int} (hs : GlobalOk s.g) (hrv : s.rv = ReverbRegs.reset)
    (hen : revWriteEn s.g.spucnt = true) (h : ChannelRun s (leftRegs ReverbRegs.reset) input out m m') :
    RevStored s 0 (revCell s m (-2)) m m' := by
  obtain ⟨m1, m2, m3, hsame, hdiff, hapf1, hapf2, -⟩ := channelRun_zero hrv h
  have htap : revCell s m2 0 = revCell s m (-2) := by
    rw [revCell_stored hen hdiff, revCell_apart hsame (revAddr_before_apart hs)]
    exact congrArg s16 (u16_s16 _)
  rw [htap] at hapf2
  exact revStored_over (revStored_over (revStored_over hsame hdiff) hapf1) hapf2

/-- Both channels run with the registers of the left one: all are 0. -/
theorem reverb_run_zero (inL inR : Int) {s : State} (hw : Memory.wf s.ram = true) (hrv : s.rv = ReverbRegs.reset) :
    ChannelRun s (leftRegs ReverbRegs.reset) inL (reverb inL inR s).1.1 s (afterLeft inL s) ∧
      ChannelRun s (leftRegs ReverbRegs.reset) inR (reverb inL inR s).1.2 (afterLeft inL s) (reverb inL inR s).2 := by
  have hsame : rightRegs ReverbRegs.reset = leftRegs ReverbRegs.reset := rfl
  have hrun := reverb_run inL inR hw
  rwa [hrv, hsame] at hrun

theorem reverb_zero_output (inL inR : Int) {s : State} (hw : Memory.wf s.ram = true) (hrv : s.rv = ReverbRegs.reset) :
    (reverb inL inR s).1.1 = 0 ∧ (reverb inL inR s).1.2 = 0 := by
  obtain ⟨hleft, hright⟩ := reverb_run_zero inL inR hw hrv
  obtain ⟨_, _, _, -, -, -, -, hL⟩ := channelRun_zero hrv hleft
  obtain ⟨_, _, _, -, -, -, -, hR⟩ := channelRun_zero hrv hright
  exact ⟨hL, hR⟩

/-- The right channel finds the cell before the cursor as the left one found it. -/
theorem reverb_zero_stored (inL inR : Int) {s : State} (hw : Memory.wf s.ram = true) (hs : GlobalOk s.g)
    (hrv : s.rv = ReverbRegs.reset) (hen : revWriteEn s.g.spucnt = true) :
    let before := memRead2 s (revAddr s (-2)).toNat
    Stored s.g.revCur.toNat [loByte before, hiByte before] s (reverb inL inR s).2 := by
  obtain ⟨hleft, hright⟩ := reverb_run_zero inL inR hw hrv
  have hstL := channelRun_zero_stored hs hrv hen hleft
  have hstR := channelRun_zero_stored hs hrv hen hright
  rw [revCell_apart hstL (revAddr_before_apart hs)] at hstR
  have hst := revStored_over hstL hstR
  simpa only [RevStored, hen, if_true, revAddr_zero hs, revCell, u16_s16] using hst

/-- Settles O55: the output, the one byte pair that changes, and where the next invocation finds it. -/
theorem reverbWithZeroRegisters : Obligations.ReverbWithZeroRegisters := by
  unfold Obligations.ReverbWithZeroRegisters
  intro inL inR s he hw hs hrv before
  have hstored := reverb_zero_stored (s16 inL) (s16 inR) (s := returning .none s) hw hs hrv
  obtain ⟨hL, hR⟩ := reverb_zero_output (s16 inL) (s16 inR) (s := returning .none s) hw hrv
  refine ⟨_, exec_intReverb he inL inR, by rw [hL, hR]; rfl, (reverb_change _ _ (returning .none s)).dropped, hstored,
    fun hen hzero => ?_⟩
  have herased : Stored s.g.revCur.toNat [0, 0] s (reverb (s16 inL) (s16 inR) (returning .none s)).2 := by
    have hst := hstored hen
    rwa [show memRead2 (returning .none s) (revAddr (returning .none s) (-2)).toNat = 0 from hzero] at hst
  have hcur : s.g.revCur.toNat + 1 < 0x80000 := by have := hs.revHigh; omega
  have hnext := reverb_before (s16 inL) (s16 inR) (s := returning .none s) hs
  exact ⟨herased, (congrArg (memRead2 _) hnext).trans (stored_cell_read (v := 0) herased hcur)⟩

end Sys2Proof.Machine
end

section
/-! PROOFS. The DMA bridge with transfer mode 2 (spec/45_dma_bridge.md R410 to R414): the four bytes at the cursor, the one
check, and the step of the cursor. -/

namespace Sys2Proof.Machine

open Sys2Proof Sys2Proof.Safety

/-! ### The check (R412) -/

/-- The difference of two addresses is below `n` when one of the `n` bytes from the second on is the first; `sub_toNat_lt_iff`
is the block's case. -/
theorem sub_toNat_lt_iff_exists (a b : RamAddr) (n : Nat) :
    (a - b).toNat < n ↔ ∃ k, k < n ∧ (b.toNat + k) % 0x80000 = a.toNat := by
  have ha := a.isLt
  have hb := b.isLt
  rw [BitVec.toNat_sub]
  constructor
  · intro h
    exact ⟨_, h, by omega⟩
  · rintro ⟨k, hk, hsum⟩
    omega

theorem dmaIrqCheck_checked (s : State) :
    Checked (∃ k, k < 4 ∧ (s.g.xferCur.toNat + k) % 0x80000 = s.g.irqAddr.toNat * 8) .dma s (dmaIrqCheck s) := by
  rw [← cursorOf_toNat]
  exact checked_congr (sub_toNat_lt_iff_exists (irqByte s) s.g.xferCur 4) (signalIrq_checked _ .dma s)

/-! ### The four bytes (R83, R84) -/

/-- Bytes stored right after others are stored with them, while the two ranges together do not go round Sound RAM. -/
theorem stored_append {a : Nat} {l l' : List Byte} {s m t : State} (h : Stored a l s m) (h' : Stored (a + l.length) l' m t)
    (hlen : l.length + l'.length ≤ 0x80000) : Stored a (l ++ l') s t := by
  intro x hx
  rw [h' x hx, h x hx]
  by_cases hin : (x + 0x80000 - a % 0x80000) % 0x80000 < l.length
  · have hbefore : l'.length ≤ (x + 0x80000 - (a + l.length) % 0x80000) % 0x80000 := by omega
    rw [List.getElem?_eq_none hbefore, List.getElem?_append_left hin]
    rfl
  · have hfrom := Nat.le_of_not_lt hin
    have hshift : (x + 0x80000 - (a + l.length) % 0x80000) % 0x80000 =
        (x + 0x80000 - a % 0x80000) % 0x80000 - l.length := by omega
    rw [hshift, List.getElem?_append_right hfrom, List.getElem?_eq_none hfrom]
    rfl

/-- A field of a field is a field, at the sum of the two places. -/
theorem extractLsb'_of_field {n start len start' len' : Nat} (x : BitVec n) (h : start' + len' ≤ len) :
    (x.extractLsb' start len).extractLsb' start' len' = x.extractLsb' (start + start') len' := by
  apply BitVec.eq_of_getLsbD_eq
  intro i hi
  have hin : start' + i < len := by omega
  simp [hin, Nat.add_assoc]

/-- The bytes of the halves of a word are the bytes of the word. -/
theorem bytes_of_halves (w : Word) :
    [loByte (wordLo w), hiByte (wordLo w)] ++ [loByte (wordHi w), hiByte (wordHi w)] =
      [w.extractLsb' 0 8, w.extractLsb' 8 8, w.extractLsb' 16 8, w.extractLsb' 24 8] := by
  simp [loByte, hiByte, wordLo, wordHi, extractLsb'_of_field]

/-- A word of two cells has the byte at the highest address on top (R84). -/
theorem mkWord_memRead2 (s : State) (a : Nat) :
    mkWord (memRead2 s (a + 2)) (memRead2 s a) =
      memRead1 s (a + 3) ++ memRead1 s (a + 2) ++ memRead1 s (a + 1) ++ memRead1 s a := by
  simp only [mkWord, memRead2, mkHalf]
  exact BitVec.append_assoc'

/-! ### The two transfers -/

/-- A DMA write changes Sound RAM, the cursor, and the flag and the trace through its check. -/
theorem dmaWrite_eq {s : State} (h : xferMode s.g.spucnt = 2) (w : Word) :
    dmaWrite w s =
      { s with
        ram := (dmaWrite w s).ram
        g := { s.g with xferCur := s.g.xferCur + 4, irqFlag := (dmaWrite w s).g.irqFlag }
        trace := (dmaWrite w s).trace } := by
  rw [dmaWrite_ok h, (dmaIrqCheck_step s).eq]
  rfl

theorem dmaWrite_stored {s : State} (hw : Memory.wf s.ram = true) (h : xferMode s.g.spucnt = 2) (w : Word) :
    Stored s.g.xferCur.toNat [w.extractLsb' 0 8, w.extractLsb' 8 8, w.extractLsb' 16 8, w.extractLsb' 24 8] s
      (dmaWrite w s) := by
  have hcheck := dmaIrqCheck_wf hw
  have hlow := memWrite2_stored hcheck s.g.xferCur.toNat (wordLo w)
  have hhigh := memWrite2_stored (memWrite2_wf hcheck s.g.xferCur.toNat (wordLo w)) (s.g.xferCur.toNat + 2) (wordHi w)
  have hword := stored_append hlow hhigh (by simp)
  rw [bytes_of_halves] at hword
  intro x hx
  rw [dmaWrite_ok h, memRead1_congr (setCursor_ram _ _), hword x hx, memRead1_congr (dmaIrqCheck_step s).ram]

theorem dmaWrite_checked {s : State} (h : xferMode s.g.spucnt = 2) (w : Word) :
    Checked (∃ k, k < 4 ∧ (s.g.xferCur.toNat + k) % 0x80000 = s.g.irqAddr.toNat * 8) .dma s (dmaWrite w s) := by
  rw [dmaWrite_ok h]
  exact dmaIrqCheck_checked s

/-- With transfer mode 2 a DMA read is the check, the step of the cursor and the answer. -/
theorem dmaRead_ok {s : State} (h : xferMode s.g.spucnt = 2) :
    dmaRead s =
      returning (.word (mkWord (memRead2 s (s.g.xferCur.toNat + 2)) (memRead2 s s.g.xferCur.toNat)))
        (setCursor (s.g.xferCur + 4) (dmaIrqCheck s)) := by
  simp [dmaRead, (xferModeOk_iff _).2 h, memRead2_congr (dmaIrqCheck_step s).ram]

/-- A DMA read changes the cursor and the result, and the flag and the trace through its check. -/
theorem dmaRead_eq {s : State} (h : xferMode s.g.spucnt = 2) :
    dmaRead s =
      { s with
        g := { s.g with xferCur := s.g.xferCur + 4, irqFlag := (dmaRead s).g.irqFlag }
        trace := (dmaRead s).trace
        result := .word
          (memRead1 s (s.g.xferCur.toNat + 3) ++ memRead1 s (s.g.xferCur.toNat + 2) ++
            memRead1 s (s.g.xferCur.toNat + 1) ++ memRead1 s s.g.xferCur.toNat) } := by
  rw [dmaRead_ok h, (dmaIrqCheck_step s).eq, mkWord_memRead2]
  rfl

theorem dmaRead_checked {s : State} (h : xferMode s.g.spucnt = 2) :
    Checked (∃ k, k < 4 ∧ (s.g.xferCur.toNat + k) % 0x80000 = s.g.irqAddr.toNat * 8) .dma s (dmaRead s) := by
  rw [dmaRead_ok h]
  exact dmaIrqCheck_checked s

/-- Settles O27: an unfaulted block checks the four bytes at the cursor, writes the two cells there, which are the four bytes of
the word, and steps the cursor. -/
theorem dmaWriteWord : Obligations.DmaWriteWord := by
  unfold Obligations.DmaWriteWord
  intro w s he hw hm
  rw [exec_dmaWr, transact_of_noError _ he]
  exact ⟨_, rfl, dmaWrite_eq (s := returning .none s) hm w, dmaWrite_stored (s := returning .none s) hw hm w,
    dmaWrite_checked (s := returning .none s) hm w⟩

/-- Settles O28: an unfaulted block makes the check of a write, answers with the two cells at the cursor, which are the four bytes
there, and steps the cursor. -/
theorem dmaReadWord : Obligations.DmaReadWord := by
  unfold Obligations.DmaReadWord
  intro s he hm
  rw [exec_dmaRd, transact_of_noError _ he]
  exact ⟨_, rfl, dmaRead_eq (s := returning .none s) hm, dmaRead_checked (s := returning .none s) hm⟩

end Sys2Proof.Machine
end

section
/-! PROOFS. The error state (spec/60_exceptions.md R430, R433): a faulted block refuses every transaction but `RESET`, and outside
transfer mode 2 the three ports raise E2 and do nothing else. -/

namespace Sys2Proof.Machine

open Sys2Proof Sys2Proof.Safety

/-! ### A faulted block (R430) -/

/-- Every transaction but `RESET` runs some operation in the frame of R430. -/
theorem exec_eq_transact {i : Instr} (hi : i ≠ .reset) : ∃ f, ∀ s, exec i s = .next (transact f s) := by
  cases hk : i.isInternal
  case false =>
    obtain ⟨f, _, hexec⟩ := (exec_outside hk).resolve_left hi
    exact ⟨f, hexec⟩
  case true =>
    obtain ⟨f, _, hexec⟩ := exec_internal hk
    exact ⟨f, hexec⟩

/-- Settles O7: the frame refuses before the operation runs. -/
theorem faultedBlockRefuses : Obligations.FaultedBlockRefuses := by
  unfold Obligations.FaultedBlockRefuses
  intro i s he hi
  obtain ⟨f, hexec⟩ := exec_eq_transact hi
  rw [hexec, transact_of_error f he]
  rfl

/-! ### The ports outside transfer mode 2 (R413, R433) -/

theorem xferModeOk_eq_false {spucnt : Half} (h : xferMode spucnt ≠ 2) : xferModeOk spucnt = false :=
  Bool.eq_false_of_not_eq_true fun hok => h ((xferModeOk_iff spucnt).1 hok)

theorem dmaWrite_error {s : State} (h : xferModeOk s.g.spucnt = false) (w : Word) :
    dmaWrite w s = raise (.invalidState .dmaWrite) s := by
  simp [dmaWrite, h]

theorem dmaRead_error {s : State} (h : xferModeOk s.g.spucnt = false) :
    dmaRead s = raise (.invalidState .dmaRead) s := by
  simp [dmaRead, h]

/-- The word write at 0xDA8 writes the port and, unless that faults, the control register (R153, R189, R190). -/
theorem writeWordAt_port (p : Params) (w : Word) (s : State) :
    writeWordAt p 0xDA8 w s =
      if faulted (writePort (wordLo w) s) then writePort (wordLo w) s
      else writeSpucnt (wordHi w) (writePort (wordLo w) s) :=
  writeWordAt_of_some rfl (regAt_offset .xferPort) (regAt_offset .spucnt) p w s

/-- A port write that faults ends the word write that reaches it. -/
theorem writeWordAt_port_error {s : State} (h : xferModeOk s.g.spucnt = false) (p : Params) (w : Word) :
    writeWordAt p 0xDA8 w s = raise (.invalidState .manualWrite) s := by
  rw [writeWordAt_port, writePort_error h]
  rfl

/-- Settles O20: in an unfaulted block each of the four operations meets the wrong mode first, and raises E2 with its port. -/
theorem portsNeedTransferMode2 : Obligations.PortsNeedTransferMode2 := by
  unfold Obligations.PortsNeedTransferMode2
  intro v w s he hmode
  have hbad : xferModeOk (returning .none s).g.spucnt = false := xferModeOk_eq_false hmode
  refine ⟨?_, ?_, ?_, ?_, fun _ => rfl⟩
  · rw [exec_wr16XferPort, transact_of_noError _ he, writePort_error hbad]
    rfl
  · rw [exec_dmaRd, transact_of_noError _ he, dmaRead_error hbad]
    rfl
  · rw [exec_dmaWr, transact_of_noError _ he, dmaWrite_error hbad]
    rfl
  · rw [exec_wr32 he, writeWordAt_port_error hbad]
    rfl

end Sys2Proof.Machine
end

section
/-! PROOFS. The discipline of the interrupt output (spec/60_exceptions.md R431, R436, R437, R441): a write of the control register
acknowledges, and every other operation only lets the trace grow, with at most one interrupt and the flag set by it. -/

namespace Sys2Proof.Machine

open Sys2Proof Sys2Proof.Safety

/-! ### Operations that never acknowledge -/

/-- In every state the operation lets the trace grow, raises at most one interrupt and never clears the pending flag. -/
def GrowsTrace (f : State → State) : Prop := ∀ s, TraceGrows s (f s)

theorem traceGrows_of_same {s t : State} (htrace : t.trace = s.trace) (hflag : t.g.irqFlag = s.g.irqFlag) :
    TraceGrows s t :=
  IrqTrace.grows (.inl ⟨htrace, hflag⟩)

@[simp] theorem unimplemented_growsTrace (p : Params) (kind : AccessKind) (off : Offset) (zero : Result) :
    GrowsTrace (unimplemented p kind off zero) := by
  intro s
  obtain ⟨_, tr, _, heq, htr⟩ := unimplemented_frame p kind off zero s
  rw [heq]
  rcases htr with rfl | rfl
  · exact traceGrows_of_same rfl rfl
  · exact ⟨⟨_, rfl⟩, .inl ⟨by rw [irqCount_append]; rfl, rfl⟩⟩

@[simp] theorem readHalf_growsTrace (p : Params) (r : Reg) : GrowsTrace (readHalf p r) := by
  intro s
  rcases readHalf_cases p r s with ⟨_, _, heq⟩ | ⟨_, heq⟩ <;> rw [heq]
  · exact traceGrows_of_same rfl rfl
  · exact unimplemented_growsTrace p _ _ _ s

@[simp] theorem writeReg_growsTrace {r : Reg} (hr : r ≠ .spucnt) (v : Half) : GrowsTrace (fun s => writeReg v s r) :=
  writeReg_grows hr v

theorem readByteAt_growsTrace (p : Params) (off : Offset) : GrowsTrace (readByteAt p off) := by
  intro s
  unfold readByteAt
  split
  · exact traceGrows_of_same rfl rfl
  · exact unimplemented_growsTrace p _ _ _ s

theorem readWordAt_growsTrace (p : Params) (off : Offset) : GrowsTrace (readWordAt p off) := by
  intro s
  unfold readWordAt
  split
  · split
    · exact traceGrows_of_same rfl rfl
    · exact unimplemented_growsTrace p _ _ _ s
  · exact unimplemented_growsTrace p _ _ _ s

/-- Away from 0xDA8 a word write reaches the control register with neither half. -/
theorem writeWordAt_growsTrace (p : Params) {off : Offset} (hoff : off ≠ 0xDA8) (w : Word) :
    GrowsTrace (writeWordAt p off w) := by
  intro s
  by_cases hnot : off.toNat % 4 ≠ 0 ∨ regAt off = none ∨ regAt (off + 2) = none
  · rw [writeWordAt_of_not hnot]
    exact unimplemented_growsTrace p _ _ _ s
  · simp only [not_or, not_not] at hnot
    obtain ⟨h4, hlow, hhigh⟩ := hnot
    obtain ⟨r0, h0⟩ := Option.ne_none_iff_exists'.mp hlow
    obtain ⟨r1, h1⟩ := Option.ne_none_iff_exists'.mp hhigh
    obtain ⟨hr0, hr1⟩ := offset_of_word_at_spucnt h4 h0 h1
    have hfirst := writeReg_grows hr0 (wordLo w) s
    rw [writeWordAt_of_some h4 h0 h1]
    split
    · exact hfirst
    · exact hfirst.trans (writeReg_spucnt hr0 (wordLo w) s) (writeReg_grows (fun h => hoff (hr1 h)) (wordHi w) _)

/-- What a micro-operation answers is beside the trace and the flag its rule leaves. -/
theorem TraceGrows.after_returningPair {s : State} {r : (Int × Int) × State} (h : TraceGrows s r.2) :
    TraceGrows s (returningPair r) := by
  unfold returningPair
  split
  · exact h
  · exact ⟨h.grows, h.irq⟩

/-- No micro-operation acknowledges: none writes the control register (R437). -/
theorem InternalOp.growsTrace {i : Instr} {f : State → State} (hf : InternalOp i f) : GrowsTrace f := by
  intro s
  cases hf with
  | keyOn n => exact (keyOn_change n s).irq.grows
  | keyOff n => exact (keyOff_change n s).irq.grows
  | voiceStep n => exact (voiceStep_change _ n s).irq.grows.after_returningPair
  | decodeBlock n => exact (decodeBlock_change n s).irq.grows
  | interpolate n => exact traceGrows_of_same rfl rfl
  | effectiveStep n => exact traceGrows_of_same rfl rfl
  | pitchAdvance n step => exact (pitchAdvance_change n _ s).irq.grows
  | adsrTick n => exact (adsrTick_change n s).irq.grows
  | mixStep => exact (mixStep_mix _ s).trace
  | keyLatch => exact (keyLatch_mix s).trace
  | captureWrite cl cr => exact (captureWrite_mix cl cr s).trace
  | finalMix dryL dryR => exact (TraceGrows.refl s).after_returningPair
  | outputAppend outL outR => exact outputAppend_grows outL outR s
  | reverb inL inR => exact (reverb_change _ _ s).irq.grows.after_returningPair

/-! ### Operations that may acknowledge -/

/-- From `s` to `t` the trace grows by at most one interrupt, which is raised only with the enable set and the flag clear; the
flag is set only by raising one, and cleared only if `acks` (R436, R437). -/
structure IrqDiscipline (acks : Prop) (s t : State) : Prop where
  grows : s.trace <+: t.trace
  raised : irqCount t.trace = irqCount s.trace ∨
    irq9En s.g.spucnt = true ∧ s.g.irqFlag = false ∧ irqCount t.trace = irqCount s.trace + 1
  set : s.g.irqFlag = false → t.g.irqFlag = true → irqCount t.trace = irqCount s.trace + 1
  cleared : s.g.irqFlag = true → t.g.irqFlag = false → acks

theorem IrqDiscipline.mono {acks acks' : Prop} {s t : State} (h : IrqDiscipline acks s t) (hacks : acks → acks') :
    IrqDiscipline acks' s t :=
  ⟨h.grows, h.raised, h.set, fun hs ht => hacks (h.cleared hs ht)⟩

/-- Where the flag and the number of interrupts move together, nothing is acknowledged. -/
theorem TraceGrows.discipline {s t : State} (h : TraceGrows s t) (acks : Prop) : IrqDiscipline acks s t := by
  rcases h.irq with ⟨hcount, hflag⟩ | ⟨hen, hclear, hset, hcount⟩
  · refine ⟨h.grows, .inl hcount, fun hs ht => ?_, fun hs ht => ?_⟩ <;> simp [hflag, hs] at ht
  · refine ⟨h.grows, .inr ⟨hen, hclear, hcount⟩, fun _ _ => hcount, fun hs _ => ?_⟩
    simp [hclear] at hs

/-- A write of the control register after an operation that never acknowledges: it adds nothing to the trace, and clears the flag
only with bit 6 clear (R437). -/
theorem TraceGrows.then_writeSpucnt {s t : State} (h : TraceGrows s t) (v : Half) :
    IrqDiscipline (v.getLsbD 6 = false) s (writeSpucnt v t) := by
  have hd := h.discipline (v.getLsbD 6 = false)
  rw [writeSpucnt_eq]
  refine ⟨hd.grows, hd.raised, fun hs ht => ?_, fun hs ht => ?_⟩
  · exact hd.set hs (Bool.and_eq_true_iff.mp ht).1
  · rcases Bool.and_eq_false_iff.mp ht with hflag | hbit
    · exact hd.cleared hs hflag
    · exact hbit

/-- The word write at 0xDA8 may raise an interrupt at the port before its high half acknowledges. -/
theorem writeWordAt_port_discipline (p : Params) (w : Word) (s : State) :
    IrqDiscipline (w.getLsbD 22 = false) s (writeWordAt p 0xDA8 w s) := by
  have hport := (writePort_change (wordLo w) s).irq.grows
  have hbit : (wordHi w).getLsbD 6 = w.getLsbD 22 := by simp [wordHi]
  rw [writeWordAt_port]
  split
  · exact hport.discipline _
  · exact hbit ▸ hport.then_writeSpucnt (wordHi w)

/-- A transaction in the frame of R430 keeps the discipline of its operation: the answer is beside the trace and the flag, and one
that is refused does nothing. -/
theorem transact_discipline {acks : Prop} {f : State → State} (hf : ∀ s, IrqDiscipline acks s (f s)) (s : State) :
    IrqDiscipline acks s (transact f s) := by
  by_cases he : NoError s
  · rw [transact_of_noError f he]
    obtain ⟨hgrows, hraised, hset, hcleared⟩ := hf (returning .none s)
    exact ⟨hgrows, hraised, hset, hcleared⟩
  · rw [transact_of_error f he]
    have hgrows : TraceGrows s (returning .refused s) := traceGrows_of_same rfl rfl
    exact hgrows.discipline acks

/-! ### Every transaction -/

/-- The transactions that acknowledge a pending interrupt, `RESET` apart: the writes of the control register with bit 6 clear, by
half-word or as the high half of a word (R437, R441). -/
def Acknowledges (i : Instr) : Prop :=
  (∃ v, i = .wr16Spucnt v ∧ v.getLsbD 6 = false) ∨ (∃ w, i = .wr32 0xDA8 w ∧ w.getLsbD 22 = false)

/-- `exec i` runs an operation that keeps the discipline and clears the flag only if `i` acknowledges. -/
def ExecDisciplined (i : Instr) : Prop :=
  ∃ f, (∀ s, IrqDiscipline (Acknowledges i) s (f s)) ∧ ∀ s, exec i s = .next (transact f s)

theorem execDisciplined_of_growsTrace {i : Instr} {f : State → State} (hf : GrowsTrace f)
    (hexec : ∀ s, exec i s = .next (transact f s)) : ExecDisciplined i :=
  ⟨f, fun s => (hf s).discipline _, hexec⟩

theorem execDisciplined_of_internal {i : Instr} (hi : i.isInternal = true) : ExecDisciplined i := by
  obtain ⟨f, hf, hexec⟩ := exec_internal hi
  exact execDisciplined_of_growsTrace hf.growsTrace hexec

/-- A write of the control register, by half-word or word, acknowledges with bit 6 clear; every other operation grows the trace. -/
theorem execDisciplined {i : Instr} (hi : i ≠ .reset) : ExecDisciplined i := by
  cases i
  case reset => exact absurd rfl hi
  case wr16Spucnt v =>
    refine ⟨writeSpucnt v, fun s => ?_, fun _ => rfl⟩
    exact ((TraceGrows.refl s).then_writeSpucnt v).mono fun hbit => .inl ⟨v, rfl, hbit⟩
  case wr32 off w =>
    by_cases hoff : off = 0xDA8
    · subst hoff
      refine ⟨writeWordAt Config.params 0xDA8 w, fun s => ?_, fun _ => rfl⟩
      exact (writeWordAt_port_discipline Config.params w s).mono fun hbit => .inr ⟨w, rfl, hbit⟩
    · exact execDisciplined_of_growsTrace (writeWordAt_growsTrace _ hoff w) fun _ => rfl
  case rd8 off => exact execDisciplined_of_growsTrace (readByteAt_growsTrace _ off) fun _ => rfl
  case rd32 off => exact execDisciplined_of_growsTrace (readWordAt_growsTrace _ off) fun _ => rfl
  case dmaRd => exact execDisciplined_of_growsTrace (fun s => (dmaRead_change s).irq.grows) fun _ => rfl
  case dmaWr w => exact execDisciplined_of_growsTrace (fun s => (dmaWrite_change w s).irq.grows) fun _ => rfl
  case tick cycles => exact execDisciplined_of_growsTrace (fun s => (runTick_tick _ cycles s).trace) fun _ => rfl
  case cdPush l r => exact execDisciplined_of_growsTrace (f := cdPush l r) (fun _ => traceGrows_of_same rfl rfl) fun _ => rfl
  case intKeyOn | intKeyOff | intVoiceStep | intDecodeBlock | intInterpolate | intEffectiveStep | intPitchAdvance
      | intAdsrTick | intMixStep | intKeyLatch | intCaptureWrite | intFinalMix | intOutputAppend | intReverb =>
    exact execDisciplined_of_internal rfl
  -- what is left is the half-word accesses of the other registers, and the unimplemented-register condition
  all_goals exact execDisciplined_of_growsTrace (by simp) fun _ => rfl

/-- Settles O59: every transaction but `RESET` runs an operation that keeps the discipline. -/
theorem interruptDiscipline : Obligations.InterruptDiscipline := by
  unfold Obligations.InterruptDiscipline
  intro i s t hi ht
  obtain ⟨f, hf, hexec⟩ := execDisciplined hi
  rw [hexec s] at ht
  cases ht
  obtain ⟨hgrows, hraised, hset, hcleared⟩ := transact_discipline hf s
  exact ⟨hgrows, hraised, hset, hcleared⟩

end Sys2Proof.Machine
end

section
/-! PROOFS. The reset state, piece by piece (spec/70_reset_and_hazards.md R471), and the transaction that gives it (R470). -/

namespace Sys2Proof.Machine

open Sys2Proof Sys2Proof.Safety

/-- Sound RAM lists no byte after reset, and an unlisted byte reads as zero (R21). -/
@[simp] theorem memRead1_reset (a : Nat) : memRead1 State.reset a = 0x00 := rfl

@[simp] theorem voice_reset (n : VoiceId) : State.reset.voice n = Voice.reset := by
  simp [State.voice, State.reset]

/-- No interrupt is pending and `SPUCNT` is zero after reset, so the status register is zero (R118). -/
theorem readReg_reset_spustat : readReg State.reset .spustat = some 0 :=
  congrArg some (spustat_eq State.reset.g.irqFlag State.reset.g.spucnt)

/-- Settles O8: Sound RAM, the voices and the status register by their lemmas; the other pieces are fields of the reset state. -/
theorem resetValues : Obligations.ResetValues := by
  unfold Obligations.ResetValues
  have globals : State.reset.g = Global.reset := rfl
  have reverb : State.reset.rv = ReverbRegs.reset := rfl
  exact ⟨memRead1_reset, voice_reset, globals, reverb, rfl, rfl, rfl, rfl, readReg_reset_spustat⟩

/-- Settles O9: `RESET` runs `resetState` with no look at the fault mark (`exec_reset`), and that keeps of the old state the
presented transactions and the noise draws alone. -/
theorem resetTransaction : Obligations.ResetTransaction := by
  unfold Obligations.ResetTransaction
  intro s
  have kept : resetState s = { State.reset with pending := s.pending, draws := s.draws } := rfl
  rw [exec_reset, kept]

end Sys2Proof.Machine
end
